-- ==== Sys2Proof/Config.lean ====
section
/-! DEFINITION. The configuration inputs of the CORE (00_scope.md R7, 10_state.md R31): the frame rate
and whether the timecode is retransmitted. Both are constant over a run; no operation writes them. -/

namespace Sys2Proof

/-- The legal values of `fps`, the set `FPS_SET` of 00_scope.md R7. A rate outside the set is refused
before the machine runs (93_implementation_defined.md U2), so the type has no other value. -/
inductive FrameRate where
  | fps24
  | fps25
  | fps30
deriving DecidableEq, Repr

/-- Frames per second, the number on the 5-bit input port `fps` (45_top_level_step.md R230). -/
def FrameRate.perSecond : FrameRate → Nat
  | .fps24 => 24
  | .fps25 => 25
  | .fps30 => 30

/-- The frame rate a number stands for, if it is one of the three (30_encoding.md R105). -/
def FrameRate.select : Nat → Option FrameRate
  | 24 => some .fps24
  | 25 => some .fps25
  | 30 => some .fps30
  | _ => none

/-- The two configuration inputs (10_state.md R31). -/
structure Config where
  fps : FrameRate
  txEnable : Bool
deriving DecidableEq, Repr

end Sys2Proof
end

