-- ==== Sys2Proof/Word.lean ====
section
/-! DEFINITION. The word types of the CORE: a nibble (one assembly slot), a serial byte, and the
12-bit event word of the trace notation. All quantities are unsigned (00_scope.md R8). -/

namespace Sys2Proof

/-- One quarter-frame slot, four bits (10_state.md R26). -/
abbrev Nibble := BitVec 4

/-- One serial byte (30_encoding.md R94, R95). -/
abbrev Byte := BitVec 8

/-- One event word, the fixed length format `EV` (30_encoding.md R91). -/
abbrev EventWord := BitVec 12

end Sys2Proof
end

