-- ==== Sys2Proof/Syntax.lean ====
section
/-! DEFINITION. The operations of the CORE as syntax: one constructor of `Instr` for every row of
spec/opcode_table.json, with the operand types they carry, and the three kinds of thing the
environment can hand to the machine. -/

namespace Sys2Proof

/-- TimecodeValue, four plain binary fields of the register widths (10_state.md R21). -/
structure TimecodeValue where
  hours : BitVec 5
  minutes : BitVec 6
  seconds : BitVec 6
  frames : BitVec 5
deriving DecidableEq, Repr

/-- The receiver's phase, the mode bit that changes how a byte decodes (10_state.md R27, 30_encoding.md R96). -/
inductive RxPhase where
  /-- `IDLE` (0): a tag byte is expected. -/
  | idle
  /-- `DATA` (1): the data byte of the message whose tag was accepted is expected. -/
  | data
deriving DecidableEq, Repr

/-- The inputs sampled at one rising edge of `clk` (45_top_level_step.md R230, R232), less the two
constant configuration inputs. -/
structure CycleInputs where
  rst : Bool
  start : Bool
  resume : Bool
  pause : Bool
  stop : Bool
  tick : Bool
  rxValid : Bool
  rxData : Byte
  txReady : Bool
deriving DecidableEq, Repr

/-- The operations. The comment at each constructor is its row of spec/opcode_table.json. -/
inductive Instr where
  /-- `RESET` (45_top_level_step.md R233). -/
  | reset
  /-- `TICK` (41_line_level_encoder.md R150). -/
  | tick
  /-- `RX b` (42_quarter_frame_receiver.md R170). -/
  | rx (b : Byte)
  /-- `START` (44_transport_controller.md R210). -/
  | start
  /-- `STOP` (R211). -/
  | stop
  /-- `PAUSE` (R212). -/
  | pause
  /-- `RESUME` (R213). -/
  | resume
  /-- `TXRDY` (43_quarter_frame_transmitter.md R191). -/
  | txrdy
  /-- `TXPOLL` (R190). -/
  | txpoll
  /-- `RX.TAG`: the serial byte `11110sss` where a tag is expected (30_encoding.md R94, R96; R171). -/
  | rxTag (slot : BitVec 3)
  /-- `RX.DATA`: the serial byte `xxxxnnnn` where a data byte is expected (R95, R96; R172). -/
  | rxData (unused : Nibble) (nib : Nibble)
  /-- `RX.IGNORE`: a serial byte that is no tag where a tag is expected (R96; R175). -/
  | rxIgnore (b : Byte)
  /-- `TX.TAG`: byte `2k` of a transfer (R97; R192). -/
  | txTag
  /-- `TX.DATA`: byte `2k+1` of a transfer (R97; R192, R193). -/
  | txData
  /-- `INC`, internal (40_timecode_counter.md R130). -/
  | inc
  /-- `SETFROM v`, internal (R131). -/
  | setfrom (v : TimecodeValue)
  /-- `CYCLE in`, one clock edge of the shell (45_top_level_step.md R232). -/
  | cycle (inputs : CycleInputs)
  /-- `LINE.FRAMES`: line slots 0..31 (30_encoding.md R101, R102). -/
  | lineFrames
  /-- `LINE.SECONDS`: line slots 32..39 (R102). -/
  | lineSeconds
  /-- `LINE.MINUTES`: line slots 40..47 (R102). -/
  | lineMinutes
  /-- `LINE.HOURS`: line slots 48..78 (R102). -/
  | lineHours
  /-- `LINE.GROUND`: line slot 79 (R154). -/
  | lineGround
  /-- `TICKS n` (30_encoding.md R106). -/
  | ticks (n : Nat)
  /-- `FRAME` (R106). -/
  | frame
  /-- `QF s, n` (R106). -/
  | qf (slot : BitVec 3) (nib : Nibble)
  /-- `MTC h, m, s, f` (R106). -/
  | mtc (hours : BitVec 5) (minutes seconds : BitVec 6) (frames : BitVec 5)
  /-- `DRAIN` (R106). -/
  | drain
  /-- `SEND` (R106). -/
  | send
deriving DecidableEq, Repr

/-- What the environment can hand to the machine. -/
inductive Stimulus where
  /-- An entry of an event trace, read as a number; it is an event word if it fits 12 bits
  (30_encoding.md R90, R91). -/
  | word (w : Nat)
  /-- A byte on the serial input (30_encoding.md R96). -/
  | byte (b : Byte)
  /-- A rising edge of `clk` with its sampled inputs (45_top_level_step.md R232). -/
  | edge (inputs : CycleInputs)
deriving DecidableEq, Repr

end Sys2Proof
end

