-- ==== Sys2Proof/Decode.lean ====
section
/-! DEFINITION. Decoding of event words (30_encoding.md R91 to R93) and of received serial bytes
(R94 to R96), total on every input, and after it the encoder, written from the same tables. -/

namespace Sys2Proof

/-- A byte is a tag byte exactly when `(b & 0xF8) = 0xF0` (30_encoding.md R94). -/
def isTagByte (b : Byte) : Bool :=
  b &&& 0xF8 == 0xF0

/-- The slot index `b[2:0]` of a tag byte (R94). -/
def tagSlot (b : Byte) : BitVec 3 :=
  b.extractLsb' 0 3

/-- The nibble `b[3:0]` of a data byte (R95). -/
def dataNibble (b : Byte) : Nibble :=
  b.extractLsb' 0 4

/-- The unused bits `b[7:4]` of a data byte (R95). -/
def unusedNibble (b : Byte) : Nibble :=
  b.extractLsb' 4 4

/-- The field `kind`, bits 11:8 (R91). -/
def eventKind (w : EventWord) : Nibble :=
  w.extractLsb' 8 4

/-- The field `payload`, bits 7:0 (R91). -/
def eventPayload (w : EventWord) : Byte :=
  w.extractLsb' 0 8

/-- The kinds whose payload must be zero (R92); every other kind is reserved (R93). -/
def decodeKind : Nat → Option Instr
  | 0 => some .reset
  | 1 => some .tick
  | 3 => some .start
  | 4 => some .stop
  | 5 => some .pause
  | 6 => some .resume
  | 7 => some .txrdy
  | 8 => some .txpoll
  | _ => none

/-- An event word's operation, or nothing for a reserved word (R92, R93). -/
def decodeEvent (w : EventWord) : Option Instr :=
  if eventKind w = 2 then some (.rx (eventPayload w))
  else if eventPayload w = 0 then decodeKind (eventKind w).toNat
  else none

/-- An entry of an event trace: a number that does not fit the 12 bits of the format is no event word (R91). -/
def decodeWord (w : Nat) : Option Instr :=
  if w < 4096 then decodeEvent (BitVec.ofNat 12 w) else none

/-- A received byte's class, by the receiver's phase (R96). -/
def decodeSerial (p : RxPhase) (b : Byte) : Instr :=
  match p with
  | .idle => if isTagByte b then .rxTag (tagSlot b) else .rxIgnore b
  | .data => .rxData (unusedNibble b) (dataNibble b)

/-- What the environment hands over, decoded in the receiver's present phase. -/
def decodeStimulus (p : RxPhase) : Stimulus → Option Instr
  | .word w => decodeWord w
  | .byte b => some (decodeSerial p b)
  | .edge i => some (.cycle i)

/-- The stimulus a row of spec/opcode_table.json names by its number of bits: the serial byte rows have
8 bits, the event word rows 12 (two whole bytes). -/
def tableStimulus (nbits w : Nat) : Stimulus :=
  if nbits ≤ 8 then .byte (BitVec.ofNat 8 w) else .word w

/-- The instruction this decoder reads from a row's word. A serial byte is decoded in phase `IDLE`,
the phase after reset (10_state.md R36). -/
def decodeTableWord (nbits w : Nat) : Option Instr :=
  decodeStimulus .idle (tableStimulus nbits w)

/-- The event word of an external operation (R92). -/
def encodeEvent : Instr → Option EventWord
  | .reset => some 0x000
  | .tick => some 0x100
  | .rx b => some (0x2#4 ++ b)
  | .start => some 0x300
  | .stop => some 0x400
  | .pause => some 0x500
  | .resume => some 0x600
  | .txrdy => some 0x700
  | .txpoll => some 0x800
  | _ => none

/-- The tag byte `11110sss` of a slot (R94). -/
def tagByte (k : BitVec 3) : Byte :=
  0b11110#5 ++ k

/-- The data byte `xxxxnnnn` (R95). -/
def dataByte (unused nib : Nibble) : Byte :=
  unused ++ nib

/-- The serial byte of a received-byte row (R94 to R96). -/
def encodeSerial : Instr → Option Byte
  | .rxTag k => some (tagByte k)
  | .rxData u n => some (dataByte u n)
  | .rxIgnore b => some b
  | _ => none

/-- The stimulus that an instruction is written as: an event word, a serial byte or a clock edge.
The internal operations, the line and transmit rows and the pseudo-operations have none
(R92; the table gives them no word that the environment can issue). -/
def encode : Instr → Option Stimulus
  | .cycle i => some (.edge i)
  | i =>
    match encodeEvent i with
    | some w => some (.word w.toNat)
    | none => (encodeSerial i).map .byte

/-- The phase in which a received-byte row applies (R96); the other rows do not depend on it. -/
def Instr.appliesIn : Instr → RxPhase → Bool
  | .rxTag _, p => p == .idle
  | .rxIgnore _, p => p == .idle
  | .rxData _ _, p => p == .data
  | _, _ => true

end Sys2Proof
end

