-- ==== Sys2Proof/Machine/State.lean ====
section
/-! DEFINITION. The state of the CORE as plain data: the registers of 10_state.md R20, the two ghost
traces of R32, the configuration inputs of R31 and the environment's pending operations; the reasons
a run can be refused; and the state after reset (R36). -/

namespace Sys2Proof.Machine

/-- The three codes of the line-level output; code 3 is never held (10_state.md R25,
93_implementation_defined.md U6). -/
inductive Level where
  /-- `GROUND`, code 0. -/
  | ground
  /-- `LOW`, code 1. -/
  | low
  /-- `HIGH`, code 2. -/
  | high
deriving DecidableEq, Repr

/-- No operation raises an exception or is stuck (60_exceptions.md R250, R263), so there is no reason
to fault: the type is empty. Nobody raises a fault, and that is safe. -/
inductive Fault where
deriving DecidableEq, Repr

/-- Why a run is refused, always at the boundary and before an operation is performed. -/
inductive Refusal where
  /-- Raised by an arm of `exec` for an instruction that has no meaning yet; safe. No arm raises it. -/
  | notModelled (mnemonic : String)
  /-- Raised by `step` and by the trace loader: an entry of the trace is a reserved event word
  (30_encoding.md R93, 93_implementation_defined.md U7), with its position in the trace that was
  given; safe. -/
  | reservedWord (entry : Stimulus) (position : Nat)
  /-- Raised by the trace loader: `fps` is outside 24, 25, 30 (U2); safe. -/
  | unsupportedFrameRate (fps : Nat)
  /-- Raised by the trace loader: a `CONFIG` line after the first line would change the configuration
  of a run (U4); safe. -/
  | configurationChanged (line : Nat)
  /-- Raised by the trace loader: a line is no line of the trace assembly (R105, R106); safe. -/
  | malformedLine (line : Nat)
deriving DecidableEq, Repr

/-- The machine's state: 10_state.md R20, with the ghost traces of R32 and the model's own `pending`
(log entry 1). -/
structure State where
  /-- The timecode counter (R21). -/
  tc : TimecodeValue
  /-- BitstreamCursor, 0..79 (R24). -/
  cursor : Fin 80
  /-- The level driven on the line (R25). -/
  level : Level
  /-- QuarterFrameAssembly, eight nibbles (R26). -/
  slot : Vector Nibble 8
  /-- Which byte of a message is expected (R27). -/
  rxPhase : RxPhase
  /-- Slot index of the tag byte last accepted (R27). -/
  rxSlot : BitVec 3
  /-- Transport flag (R28). -/
  clockStarted : Bool
  /-- Transport flag (R28). -/
  clockPaused : Bool
  /-- The frame-complete flag (R29). -/
  txPending : Bool
  /-- A transfer is in progress (R30). -/
  txBusy : Bool
  /-- Index of the next byte of the transfer (R30). -/
  txIdx : BitVec 4
  /-- The value being transmitted (R30). -/
  txLatch : TimecodeValue
  /-- The trace `line_out`, oldest first (R32, 00_scope.md R10). -/
  lineTrace : List Level
  /-- The trace `tx_out`, oldest first (R32, 00_scope.md R10). -/
  txTrace : List Byte
  /-- The configuration inputs, constant over a run (R31). -/
  config : Config
  /-- What the environment issues from here on, in order (00_scope.md R4; log entry 1). -/
  pending : List Stimulus
deriving DecidableEq, Repr

/-- The state after reset: the values of 10_state.md R36. The configuration inputs are no state and
have no reset value: 30 frames per second with retransmission enabled is a DESIGN CHOICE, the default
of 95_test_vectors.md (log entry 3). Nothing is pending (log entry 1). -/
def State.reset : State where
  tc := ⟨0, 0, 0, 0⟩
  cursor := 0
  level := .ground
  slot := Vector.replicate 8 0
  rxPhase := .idle
  rxSlot := 0
  clockStarted := false
  clockPaused := false
  txPending := false
  txBusy := false
  txIdx := 0
  txLatch := ⟨0, 0, 0, 0⟩
  lineTrace := []
  txTrace := []
  config := ⟨.fps30, true⟩
  pending := []

end Sys2Proof.Machine
end

