-- ==== Sys2Proof/Machine/Flags.lean ====
section
/-! DEFINITION. The flags of the CORE and what is derived from them: the transport state
(10_state.md R28) and the value codes of the ports and of the mode bit (30_encoding.md R103, R104). -/

namespace Sys2Proof

/-- The code of the mode bit `rx_phase` (30_encoding.md R104, 10_state.md R27). -/
def RxPhase.code : RxPhase → BitVec 1
  | .idle => 0
  | .data => 1

end Sys2Proof

namespace Sys2Proof.Machine

/-- `TransportState` (10_state.md R28). -/
inductive TransportState where
  | stopped
  | running
  | paused
deriving DecidableEq, Repr

/-- The table of R28; the pair (0,1) is never held and reads as Stopped
(93_implementation_defined.md U5). -/
def transportOf (started paused : Bool) : TransportState :=
  match started, paused with
  | false, _ => .stopped
  | true, false => .running
  | true, true => .paused

/-- The transport state, derived and not stored (R28). -/
def State.transport (s : State) : TransportState :=
  transportOf s.clockStarted s.clockPaused

/-- `TransportState = Running`, the one condition the transport gates (44_transport_controller.md R217). -/
def State.isRunning (s : State) : Bool :=
  s.transport == .running

/-- The code on port `transport_state` (30_encoding.md R104). -/
def TransportState.code : TransportState → BitVec 2
  | .stopped => 0
  | .running => 1
  | .paused => 2

/-- The code on port `level` (30_encoding.md R103). -/
def Level.code : Level → BitVec 2
  | .ground => 0
  | .low => 1
  | .high => 2

/-- `DoStart()` writes both flags (44_transport_controller.md R210). It is the body of `START` and the
last act of a reassembly (42_quarter_frame_receiver.md R174). -/
def State.doStart (s : State) : State :=
  { s with clockStarted := true, clockPaused := false }

/-- The frame-complete flag is set by the wrap tick (10_state.md R29). -/
def State.markFrameComplete (s : State) : State :=
  { s with txPending := true }

end Sys2Proof.Machine
end

