-- ==== Sys2Proof/Machine/Operands.lean ====
section
/-! DEFINITION. The read-only lookups of the CORE: the bit a line slot carries (30_encoding.md R102),
the nibble and the byte of a transfer (R98, 43_quarter_frame_transmitter.md R192), the slots of the
quarter-frame assembly and the value assembled from them (R99, R100). -/

namespace Sys2Proof.Machine

/-- The frames range reuses four shift amounts: slot `c` carries bit `c mod 4` (R102, and U10: not to be
repaired). -/
def framesBit (c : Nat) (v : TimecodeValue) : Bool :=
  v.frames.getLsbD (c % 4)

/-- Slot `c` of the seconds range carries bit `c - 32`, zero above the width (R102, R8). -/
def secondsBit (c : Nat) (v : TimecodeValue) : Bool :=
  v.seconds.getLsbD (c - 32)

/-- Slot `c` of the minutes range carries bit `c - 40`, zero above the width (R102, R8). -/
def minutesBit (c : Nat) (v : TimecodeValue) : Bool :=
  v.minutes.getLsbD (c - 40)

/-- Slot `c` of the hours range carries bit `c - 48`, zero above the width (R102, R8). -/
def hoursBit (c : Nat) (v : TimecodeValue) : Bool :=
  v.hours.getLsbD (c - 48)

/-- `BIT(c, tc)` for `c` in 0..78 (R102, 41_line_level_encoder.md R151). -/
def bitAt (c : Nat) (v : TimecodeValue) : Bool :=
  if c < 32 then framesBit c v
  else if c < 40 then secondsBit c v
  else if c < 48 then minutesBit c v
  else hoursBit c v

/-- `LEVEL_OF(0) = LOW`, `LEVEL_OF(1) = HIGH` (R103). -/
def levelOf (b : Bool) : Level :=
  if b then .high else .low

/-- What one slot of an uninterrupted line frame shows for a counter value (R101). -/
def slotLevel (v : TimecodeValue) (c : Nat) : Level :=
  if c = 79 then .ground else levelOf (bitAt c v)

/-- The 80 levels of a whole line frame (R101). -/
def frameLevels (v : TimecodeValue) : List Level :=
  (List.range 80).map (slotLevel v)

/-- `NIB(k, v)`: even slots carry bits 3:0 of a field, odd slots its upper bits zero-extended
(30_encoding.md R98, 43_quarter_frame_transmitter.md R193). -/
def nib (k : BitVec 3) (v : TimecodeValue) : Nibble :=
  match k.toNat with
  | 0 => v.frames.extractLsb' 0 4
  | 1 => v.frames.extractLsb' 4 4
  | 2 => v.seconds.extractLsb' 0 4
  | 3 => v.seconds.extractLsb' 4 4
  | 4 => v.minutes.extractLsb' 0 4
  | 5 => v.minutes.extractLsb' 4 4
  | 6 => v.hours.extractLsb' 0 4
  | _ => v.hours.extractLsb' 4 4

/-- The message a byte of a transfer belongs to, `i >> 1` (R192). -/
def messageOf (i : BitVec 4) : BitVec 3 :=
  i.extractLsb' 1 3

/-- Byte `i` is a tag byte when `i` is even (R192). -/
def isTagIndex (i : BitVec 4) : Bool :=
  !i.getLsbD 0

/-- `TXBYTE(i, v)`: tag byte of slot `i/2` when `i` is even, else its data byte with a zero high half
(43_quarter_frame_transmitter.md R192, 30_encoding.md R97). -/
def txByte (i : BitVec 4) (v : TimecodeValue) : Byte :=
  if isTagIndex i then tagByte (messageOf i) else dataByte 0 (nib (messageOf i) v)

/-- The sixteen bytes of a transfer, in order (R192). -/
def transferBytes (v : TimecodeValue) : List Byte :=
  (List.range 16).map fun i => txByte (BitVec.ofNat 4 i) v

/-- `slot[k]`; every index is legal (20_memory.md R60). -/
def readSlot (slot : Vector Nibble 8) (k : BitVec 3) : Nibble :=
  slot[k.toNat]'k.isLt

/-- `slot[k] <- n` (20_memory.md R60). -/
def writeSlot (slot : Vector Nibble 8) (k : BitVec 3) (n : Nibble) : Vector Nibble 8 :=
  slot.set k.toNat n k.isLt

/-- A five-bit field from its two nibbles, high nibble masked with 0x1 (30_encoding.md R99, R100). -/
def joinFive (hi lo : Nibble) : BitVec 5 :=
  (hi &&& 0x1).setWidth 1 ++ lo

/-- A six-bit field from its two nibbles, high nibble masked with 0x3 (R99, R100). -/
def joinSix (hi lo : Nibble) : BitVec 6 :=
  (hi &&& 0x3).setWidth 2 ++ lo

/-- The value assembled from the eight slots (R100, 42_quarter_frame_receiver.md R173). -/
def assemble (slot : Vector Nibble 8) : TimecodeValue where
  frames := joinFive (readSlot slot 1) (readSlot slot 0)
  seconds := joinSix (readSlot slot 3) (readSlot slot 2)
  minutes := joinSix (readSlot slot 5) (readSlot slot 4)
  hours := joinFive (readSlot slot 7) (readSlot slot 6)

end Sys2Proof.Machine
end

