-- ==== Sys2Proof/Machine/Ops.lean ====
section
/-! DEFINITION. The named operations over the registers, shared by the meanings: the two output
primitives of 00_scope.md R9, the data slot of a line frame, the acceptance of one transmitted byte and
the two writes of the receiver. No exception is ever taken (60_exceptions.md R250, R256), so there is
no operation that takes one and none that returns from one. -/

namespace Sys2Proof.Machine

/-- `LineOut(l)`: set `level` and append to `line_out` (00_scope.md R9). -/
def State.driveLine (l : Level) (s : State) : State :=
  { s with level := l, lineTrace := s.lineTrace ++ [l] }

/-- `SerialOut(b)`: append to `tx_out` (00_scope.md R9). -/
def State.serialOut (b : Byte) (s : State) : State :=
  { s with txTrace := s.txTrace ++ [b] }

/-- A data slot of the line frame: the level of one bit, and the next slot
(41_line_level_encoder.md R150). It is used with `cursor` below 79, so the sum is exact (R133). -/
def State.dataSlot (bit : Bool) (s : State) : State :=
  { s.driveLine (levelOf bit) with cursor := s.cursor + 1 }

/-- After byte `tx_idx` is accepted: the transfer ends at byte 15, where `tx_idx` stays, else the next byte
is offered (43_quarter_frame_transmitter.md R191). -/
def State.nextByte (s : State) : State :=
  if s.txIdx = 15 then { s with txBusy := false } else { s with txIdx := s.txIdx + 1 }

/-- A tag byte is accepted: remember its slot, expect the data byte (42_quarter_frame_receiver.md R171). -/
def State.acceptTag (k : BitVec 3) (s : State) : State :=
  { s with rxSlot := k, rxPhase := .data }

/-- The pending message's nibble is stored and a tag is expected again (R172). -/
def State.storeNibble (n : Nibble) (s : State) : State :=
  { s with slot := writeSlot s.slot s.rxSlot n, rxPhase := .idle }

end Sys2Proof.Machine
end

