-- ==== Sys2Proof/Machine/TimecodeCounter.lean ====
section
/-! DEFINITION. timecode_counter: `INC` and `SETFROM` (40_timecode_counter.md). -/

namespace Sys2Proof

/-- `INC` on a value (40_timecode_counter.md R130). Each sum is formed without truncation and compared
with `>=` before anything is written (R133); a field is written only if every less significant field
overflowed. -/
def TimecodeValue.inc (fps : Nat) (v : TimecodeValue) : TimecodeValue :=
  if v.frames.toNat + 1 ≥ fps then
    if v.seconds.toNat + 1 ≥ 60 then
      if v.minutes.toNat + 1 ≥ 60 then
        { hours := if v.hours.toNat + 1 ≥ 24 then 0 else v.hours + 1
          minutes := 0, seconds := 0, frames := 0 }
      else { v with minutes := v.minutes + 1, seconds := 0, frames := 0 }
    else { v with seconds := v.seconds + 1, frames := 0 }
  else { v with frames := v.frames + 1 }

end Sys2Proof

namespace Sys2Proof.Machine

/-- `INC()` (R130): the counter only; no flag and no output is written. -/
def State.incTc (s : State) : State :=
  { s with tc := s.tc.inc s.config.fps.perSecond }

/-- `SETFROM(v)` (R131): all four fields at once, with no check of any kind. -/
def State.setFrom (v : TimecodeValue) (s : State) : State :=
  { s with tc := v }

/-- `INC`. -/
def execInc (s : State) : Host.Outcome State Fault Refusal :=
  .next s.incTc

/-- `SETFROM v`. -/
def execSetfrom (v : TimecodeValue) (s : State) : Host.Outcome State Fault Refusal :=
  .next (s.setFrom v)

end Sys2Proof.Machine
end

