-- ==== Sys2Proof/Machine/LineLevelEncoder.lean ====
section
/-! DEFINITION. line_level_encoder: `TICK` (41_line_level_encoder.md R150 to R154), the five rows of the
line frame that a tick takes by the value of `cursor` (30_encoding.md R101, R102), and the reference
bit extractor (R155). -/

namespace Sys2Proof.Machine

/-- The wrap tick (R154): ground, cursor to 0, one increment, the frame-complete flag. -/
def State.wrapFrame (s : State) : State :=
  ({ s.driveLine .ground with cursor := 0 } : State).incTc.markFrameComplete

/-- `TICK()` (R150). The bit is taken from the counter as it is before the tick (R151). -/
def State.doTick (s : State) : State :=
  if s.isRunning then
    if s.cursor.val = 79 then s.wrapFrame
    else s.dataSlot (bitAt s.cursor.val s.tc)
  else s.driveLine .ground

/-- `TICK`. -/
def execTick (s : State) : Host.Outcome State Fault Refusal :=
  .next s.doTick

/-- `LINE.FRAMES`: the tick taken while Running at a slot in 0..31 (30_encoding.md R101, R102). At any
other slot, and while not Running, the tick is what R150 says (log entry 7). -/
def execLineFrames (s : State) : Host.Outcome State Fault Refusal :=
  .next (if s.isRunning && decide (s.cursor.val < 32) then s.dataSlot (framesBit s.cursor.val s.tc)
    else s.doTick)

/-- `LINE.SECONDS`: the tick taken while Running at a slot in 32..39 (R102; log entry 7). -/
def execLineSeconds (s : State) : Host.Outcome State Fault Refusal :=
  .next (if s.isRunning && decide (32 ≤ s.cursor.val ∧ s.cursor.val < 40) then
      s.dataSlot (secondsBit s.cursor.val s.tc)
    else s.doTick)

/-- `LINE.MINUTES`: the tick taken while Running at a slot in 40..47 (R102; log entry 7). -/
def execLineMinutes (s : State) : Host.Outcome State Fault Refusal :=
  .next (if s.isRunning && decide (40 ≤ s.cursor.val ∧ s.cursor.val < 48) then
      s.dataSlot (minutesBit s.cursor.val s.tc)
    else s.doTick)

/-- `LINE.HOURS`: the tick taken while Running at a slot in 48..78 (R102; log entry 7). -/
def execLineHours (s : State) : Host.Outcome State Fault Refusal :=
  .next (if s.isRunning && decide (48 ≤ s.cursor.val ∧ s.cursor.val < 79) then
      s.dataSlot (hoursBit s.cursor.val s.tc)
    else s.doTick)

/-- `LINE.GROUND`: the tick taken while Running at slot 79 (R154; log entry 7). -/
def execLineGround (s : State) : Host.Outcome State Fault Refusal :=
  .next (if s.isRunning && decide (s.cursor.val = 79) then s.wrapFrame else s.doTick)

/-- The number whose bit `i` is 1 where level `first + i` of a frame is `HIGH`, over `width` slots: the
sum of R155. -/
def extractField (levels : List Level) (first : Nat) : Nat → Nat
  | 0 => 0
  | i + 1 => extractField levels first i + (if levels[first + i]? = some .high then 2 ^ i else 0)

end Sys2Proof.Machine
end

