-- ==== Sys2Proof/Machine/TransportController.lean ====
section
/-! DEFINITION. transport_state_machine: `START`, `STOP`, `PAUSE`, `RESUME`
(44_transport_controller.md R210 to R215). None of them writes anything but the two flags. -/

namespace Sys2Proof.Machine

/-- `STOP()` (R211). -/
def State.doStop (s : State) : State :=
  { s with clockStarted := false, clockPaused := false }

/-- `PAUSE()` acts in Running only (R212). -/
def State.doPause (s : State) : State :=
  if s.clockStarted && !s.clockPaused then { s with clockPaused := true } else s

/-- `RESUME()` acts in Paused only (R213). -/
def State.doResume (s : State) : State :=
  if s.clockStarted && s.clockPaused then { s with clockPaused := false } else s

/-- `START` (R210). -/
def execStart (s : State) : Host.Outcome State Fault Refusal :=
  .next s.doStart

/-- `STOP`. -/
def execStop (s : State) : Host.Outcome State Fault Refusal :=
  .next s.doStop

/-- `PAUSE`. -/
def execPause (s : State) : Host.Outcome State Fault Refusal :=
  .next s.doPause

/-- `RESUME`. -/
def execResume (s : State) : Host.Outcome State Fault Refusal :=
  .next s.doResume

end Sys2Proof.Machine
end

