-- ==== Sys2Proof/Machine/QuarterFrameReceiver.lean ====
section
/-! DEFINITION. quarter_frame_receiver: `RX` with its three cases and the reassembly
(42_quarter_frame_receiver.md R170 to R175). -/

namespace Sys2Proof.Machine

/-- `Reassemble()` (R173): load the assembled value unchecked, then start the transport (R174). The slots
are read, not modified. -/
def State.reassemble (s : State) : State :=
  (s.setFrom (assemble s.slot)).doStart

/-- A data byte (R172): store its nibble at the tagged slot; slot 7 triggers the reassembly, after the
write and in the same transition. -/
def State.receiveData (n : Nibble) (s : State) : State :=
  if s.rxSlot = 7 then (s.storeNibble n).reassemble else s.storeNibble n

/-- `RX(b)` (R170). -/
def State.doRx (b : Byte) (s : State) : State :=
  match s.rxPhase with
  | .idle => if isTagByte b then s.acceptTag (tagSlot b) else s
  | .data => s.receiveData (dataNibble b)

/-- `RX b`. -/
def execRx (b : Byte) (s : State) : Host.Outcome State Fault Refusal :=
  .next (s.doRx b)

/-- `RX.TAG`: the byte `11110sss` arrives. Where a tag is expected it is accepted (R171); where a data
byte is expected it is the data byte (R172; log entry 7). -/
def execRxTag (k : BitVec 3) (s : State) : Host.Outcome State Fault Refusal :=
  .next (match s.rxPhase with
    | .idle => s.acceptTag k
    | .data => s.doRx (tagByte k))

/-- `RX.DATA`: the byte `xxxxnnnn` arrives. Where a data byte is expected its low nibble is stored and
its high half ignored (R172); where a tag is expected it is classified as R96 says (log entry 7). -/
def execRxData (unused n : Nibble) (s : State) : Host.Outcome State Fault Refusal :=
  .next (match s.rxPhase with
    | .idle => s.doRx (dataByte unused n)
    | .data => s.receiveData n)

/-- `RX.IGNORE`: a byte that is no tag byte arrives. Where a tag is expected nothing changes (R175);
where a data byte is expected it is the data byte (R172; log entry 7). -/
def execRxIgnore (b : Byte) (s : State) : Host.Outcome State Fault Refusal :=
  .next (match s.rxPhase with
    | .idle => if isTagByte b then s.doRx b else s
    | .data => s.doRx b)

end Sys2Proof.Machine
end

