-- ==== Sys2Proof/Machine/QuarterFrameTransmitter.lean ====
section
/-! DEFINITION. quarter_frame_transmitter: `TXPOLL` and `TXRDY` (43_quarter_frame_transmitter.md R190 to
R192), and the two rows of the transmitted byte. -/

namespace Sys2Proof.Machine

/-- A transfer starts: all four fields are copied at once, byte 0 is offered next (R190). -/
def State.startTransfer (s : State) : State :=
  { s with txLatch := s.tc, txIdx := 0, txBusy := true }

/-- `TXPOLL()` (R190). -/
def State.doTxpoll (s : State) : State :=
  if s.txPending && !s.txBusy then
    if s.isRunning && s.config.txEnable then
      ({ s with txPending := false } : State).startTransfer
    else { s with txPending := false }
  else s

/-- `TXRDY()` (R191). -/
def State.doTxrdy (s : State) : State :=
  if s.txBusy then (s.serialOut (txByte s.txIdx s.txLatch)).nextByte else s

/-- `TXPOLL`. -/
def execTxpoll (s : State) : Host.Outcome State Fault Refusal :=
  .next s.doTxpoll

/-- `TXRDY`. -/
def execTxrdy (s : State) : Host.Outcome State Fault Refusal :=
  .next s.doTxrdy

/-- `TX.TAG`: the serial sink accepts byte `2k` of a transfer, the tag byte of slot `k` (30_encoding.md R97,
R192). With a data byte or nothing offered, the acceptance is what R191 says (log entry 7). -/
def execTxTag (s : State) : Host.Outcome State Fault Refusal :=
  .next (if s.txBusy && isTagIndex s.txIdx then (s.serialOut (tagByte (messageOf s.txIdx))).nextByte
    else s.doTxrdy)

/-- `TX.DATA`: the serial sink accepts byte `2k+1` of a transfer, the data byte of slot `k` (R97, R193).
With a tag byte or nothing offered, the acceptance is what R191 says (log entry 7). -/
def execTxData (s : State) : Host.Outcome State Fault Refusal :=
  .next (if s.txBusy && !isTagIndex s.txIdx then
      (s.serialOut (dataByte 0 (nib (messageOf s.txIdx) s.txLatch))).nextByte
    else s.doTxrdy)

end Sys2Proof.Machine
end

