-- ==== Sys2Proof/Machine/TopLevel.lean ====
section
/-! DEFINITION. Top level: `RESET`, the clocked step `CYCLE`, the output ports, and the port activity of
an event word (45_top_level_step.md R230 to R233). -/

namespace Sys2Proof.Machine

/-- `RESET()` (R233): every register to its value of 10_state.md R36 and both traces restarted. The
configuration inputs are constant (R31) and what the environment issues next is not the machine's
to change, so both are kept (log entry 9). -/
def State.doReset (s : State) : State :=
  { State.reset with config := s.config, pending := s.pending }

/-- `RESET`. -/
def execReset (s : State) : Host.Outcome State Fault Refusal :=
  .next s.doReset

/-- An operation that is performed only if its strobe is 1 (R232). -/
def onStrobe (strobe : Bool) (op : State → State) (s : State) : State :=
  if strobe then op s else s

/-- `CYCLE(in)` (R232): `RESET` overrides every other input; else the operations in the fixed order, each
seeing the result of the one before, and `TXPOLL` always last. -/
def State.doCycle (i : CycleInputs) (s : State) : State :=
  if i.rst then s.doReset
  else
    let s := onStrobe i.start State.doStart s
    let s := onStrobe i.resume State.doResume s
    let s := onStrobe i.pause State.doPause s
    let s := onStrobe i.stop State.doStop s
    let s := onStrobe i.tick State.doTick s
    let s := onStrobe i.rxValid (State.doRx i.rxData) s
    let s := onStrobe i.txReady State.doTxrdy s
    s.doTxpoll

/-- `CYCLE in`. -/
def execCycle (i : CycleInputs) (s : State) : Host.Outcome State Fault Refusal :=
  .next (s.doCycle i)

/-- The output ports (R230), all functions of the registers. -/
structure Outputs where
  txValid : Bool
  txData : Byte
  level : BitVec 2
  tcHours : BitVec 5
  tcMinutes : BitVec 6
  tcSeconds : BitVec 6
  tcFrames : BitVec 5
  transportState : BitVec 2
deriving DecidableEq, Repr

/-- What the ports show (R230); `tx_data` is 0x00 while nothing is offered. The four readout ports are
the timecode readout of 40_timecode_counter.md R132. -/
def State.outputs (s : State) : Outputs where
  txValid := s.txBusy
  txData := if s.txBusy then txByte s.txIdx s.txLatch else 0
  level := s.level.code
  tcHours := s.tc.hours
  tcMinutes := s.tc.minutes
  tcSeconds := s.tc.seconds
  tcFrames := s.tc.frames
  transportState := s.transport.code

/-- A clock cycle with every input 0. -/
def quietCycle : CycleInputs :=
  ⟨false, false, false, false, false, false, false, 0, false⟩

/-- The port activity of an external operation (R231); `TXPOLL` has no port and is performed in every
cycle. Only the external operations have one. -/
def portsOf : Instr → Option CycleInputs
  | .reset => some { quietCycle with rst := true }
  | .tick => some { quietCycle with tick := true }
  | .rx b => some { quietCycle with rxValid := true, rxData := b }
  | .start => some { quietCycle with start := true }
  | .stop => some { quietCycle with stop := true }
  | .pause => some { quietCycle with pause := true }
  | .resume => some { quietCycle with resume := true }
  | .txrdy => some { quietCycle with txReady := true }
  | .txpoll => some quietCycle
  | _ => none

end Sys2Proof.Machine
end

