-- ==== Sys2Proof/Machine/TraceOps.lean ====
section
/-! DEFINITION. The pseudo-operations of the trace assembly (30_encoding.md R106), each performed as its
textual expansion, and the event words that an operation stands for in a trace (R92, R106,
45_top_level_step.md R232). -/

namespace Sys2Proof.Machine

/-- `TICKS n`: `TICK` repeated `n` times (R106). -/
def execTicks (n : Nat) (s : State) : Host.Outcome State Fault Refusal :=
  .next (State.doTick^[n] s)

/-- `FRAME`: `TICKS 80` (R106). -/
def execFrame (s : State) : Host.Outcome State Fault Refusal :=
  .next (State.doTick^[80] s)

/-- One quarter-frame message, `RX (0xF0 + s)` then `RX n` (R106). -/
def State.doQf (k : BitVec 3) (n : Nibble) (s : State) : State :=
  (s.doRx (tagByte k)).doRx (dataByte 0 n)

/-- `QF s, n`. -/
def execQf (k : BitVec 3) (n : Nibble) (s : State) : Host.Outcome State Fault Refusal :=
  .next (s.doQf k n)

/-- The eight messages of a value, slot 0 first (R106: `f mod 16`, `f div 16` and so on). -/
def messages (v : TimecodeValue) : List (BitVec 3 × Nibble) :=
  [(0, BitVec.ofNat 4 (v.frames.toNat % 16)), (1, BitVec.ofNat 4 (v.frames.toNat / 16)),
   (2, BitVec.ofNat 4 (v.seconds.toNat % 16)), (3, BitVec.ofNat 4 (v.seconds.toNat / 16)),
   (4, BitVec.ofNat 4 (v.minutes.toNat % 16)), (5, BitVec.ofNat 4 (v.minutes.toNat / 16)),
   (6, BitVec.ofNat 4 (v.hours.toNat % 16)), (7, BitVec.ofNat 4 (v.hours.toNat / 16))]

/-- `MTC h, m, s, f`: the eight messages (R106). -/
def execMtc (h : BitVec 5) (m sec : BitVec 6) (f : BitVec 5) (s : State) :
    Host.Outcome State Fault Refusal :=
  .next ((messages ⟨h, m, sec, f⟩).foldl (fun s x => s.doQf x.1 x.2) s)

/-- `DRAIN`: `TXRDY` repeated 16 times (R106). -/
def execDrain (s : State) : Host.Outcome State Fault Refusal :=
  .next (State.doTxrdy^[16] s)

/-- `SEND`: `TXPOLL` then `DRAIN` (R106). -/
def execSend (s : State) : Host.Outcome State Fault Refusal :=
  .next (State.doTxrdy^[16] s.doTxpoll)

/-- The event word of `RX b` (R92). -/
def rxWord (b : Byte) : EventWord :=
  0x2#4 ++ b

/-- The event words of one quarter-frame message (R106). -/
def qfWords (k : BitVec 3) (n : Nibble) : List EventWord :=
  [rxWord (tagByte k), rxWord (dataByte 0 n)]

/-- One event word if a strobe is 1 (45_top_level_step.md R232). -/
def wordIf (strobe : Bool) (w : EventWord) : List EventWord :=
  if strobe then [w] else []

/-- The event sequence of one clock edge (R232, R239). -/
def cycleWords (i : CycleInputs) : List EventWord :=
  if i.rst then [0x000]
  else
    wordIf i.start 0x300 ++ wordIf i.resume 0x600 ++ wordIf i.pause 0x500 ++ wordIf i.stop 0x400 ++
      wordIf i.tick 0x100 ++ wordIf i.rxValid (rxWord i.rxData) ++ wordIf i.txReady 0x700 ++ [0x800]

/-- The event words an operation stands for in an event trace: its own word (30_encoding.md R92), the word
of the received byte for a received-byte row (R96), the expansion of a pseudo-operation (R106) or of
a clock edge (45_top_level_step.md R239). The internal operations have none (R92), and neither have
the rows that only name a case of `TICK` or `TXRDY`. -/
def traceWords : Instr → Option (List EventWord)
  | .reset => some [0x000]
  | .tick => some [0x100]
  | .rx b => some [rxWord b]
  | .start => some [0x300]
  | .stop => some [0x400]
  | .pause => some [0x500]
  | .resume => some [0x600]
  | .txrdy => some [0x700]
  | .txpoll => some [0x800]
  | .rxTag k => some [rxWord (tagByte k)]
  | .rxData u n => some [rxWord (dataByte u n)]
  | .rxIgnore b => some [rxWord b]
  | .cycle i => some (cycleWords i)
  | .ticks n => some (List.replicate n 0x100)
  | .frame => some (List.replicate 80 0x100)
  | .qf k n => some (qfWords k n)
  | .mtc h m s f => some ((messages ⟨h, m, s, f⟩).flatMap fun x => qfWords x.1 x.2)
  | .drain => some (List.replicate 16 0x700)
  | .send => some (0x800 :: List.replicate 16 0x700)
  | .txTag => none
  | .txData => none
  | .inc => none
  | .setfrom _ => none
  | .lineFrames => none
  | .lineSeconds => none
  | .lineMinutes => none
  | .lineHours => none
  | .lineGround => none

end Sys2Proof.Machine
end

