-- ==== Sys2Proof/Machine/Dispatch.lean ====
section
/-! DEFINITION. `exec`: one arm per constructor of `Instr`, each one call of its meaning. -/

namespace Sys2Proof.Machine

def exec (i : Instr) (s : State) : Host.Outcome State Fault Refusal :=
  match i with
  | .reset => Sys2Proof.Machine.execReset s
  | .tick => Sys2Proof.Machine.execTick s
  | .rx b => Sys2Proof.Machine.execRx b s
  | .start => Sys2Proof.Machine.execStart s
  | .stop => Sys2Proof.Machine.execStop s
  | .pause => Sys2Proof.Machine.execPause s
  | .resume => Sys2Proof.Machine.execResume s
  | .txrdy => Sys2Proof.Machine.execTxrdy s
  | .txpoll => Sys2Proof.Machine.execTxpoll s
  | .rxTag k => Sys2Proof.Machine.execRxTag k s
  | .rxData u n => Sys2Proof.Machine.execRxData u n s
  | .rxIgnore b => Sys2Proof.Machine.execRxIgnore b s
  | .txTag => Sys2Proof.Machine.execTxTag s
  | .txData => Sys2Proof.Machine.execTxData s
  | .inc => Sys2Proof.Machine.execInc s
  | .setfrom v => Sys2Proof.Machine.execSetfrom v s
  | .cycle inputs => Sys2Proof.Machine.execCycle inputs s
  | .lineFrames => Sys2Proof.Machine.execLineFrames s
  | .lineSeconds => Sys2Proof.Machine.execLineSeconds s
  | .lineMinutes => Sys2Proof.Machine.execLineMinutes s
  | .lineHours => Sys2Proof.Machine.execLineHours s
  | .lineGround => Sys2Proof.Machine.execLineGround s
  | .ticks n => Sys2Proof.Machine.execTicks n s
  | .frame => Sys2Proof.Machine.execFrame s
  | .qf k n => Sys2Proof.Machine.execQf k n s
  | .mtc h m sec f => Sys2Proof.Machine.execMtc h m sec f s
  | .drain => Sys2Proof.Machine.execDrain s
  | .send => Sys2Proof.Machine.execSend s

end Sys2Proof.Machine
end

