-- ==== Sys2Proof/Machine/Step.lean ====
section
/-! DEFINITION. One step: the first pending stimulus is taken, decoded in the receiver's phase and
performed (00_scope.md R4). -/

namespace Sys2Proof.Machine

/-- One step. With nothing pending the environment has issued no operation and nothing changes
(00_scope.md R11; log entry 2). A reserved word is refused and the machine is not given it
(30_encoding.md R93; log entry 10). -/
def step (s : State) : Host.Outcome State Fault Refusal :=
  match s.pending with
  | [] => .next s
  | x :: rest =>
    match decodeStimulus s.rxPhase x with
    | some i => exec i { s with pending := rest }
    | none => .refused (.reservedWord x 0)

/-- A row's word put where `step` takes its next operation from: before whatever is pending (log
entries 1 and 8). -/
def State.withFetchWord (s : State) (nbits w : Nat) : State :=
  { s with pending := tableStimulus nbits w :: s.pending }

end Sys2Proof.Machine
end

