-- ==== Sys2Proof/Machine/Assembly.lean ====
section
/-! DEFINITION. The trace assembly (30_encoding.md R105, R106): one operation per line, mnemonic first,
numbers in decimal or `0x` hexadecimal, `;` opening a comment, one `CONFIG` header; and the loader,
which refuses a trace before the machine is given any of it (R93, 93_implementation_defined.md U2,
U4, U7). A line is a list of characters (log entry 12). -/

namespace Sys2Proof.Machine

/-- The value of a digit, below 16. -/
def digitValue (c : Char) : Option Nat :=
  if 48 ≤ c.toNat ∧ c.toNat ≤ 57 then some (c.toNat - 48)
  else if 65 ≤ c.toNat ∧ c.toNat ≤ 70 then some (c.toNat - 55)
  else if 97 ≤ c.toNat ∧ c.toNat ≤ 102 then some (c.toNat - 87)
  else none

/-- The number that digits of a base spell after `acc`. -/
def readDigits (base acc : Nat) : List Char → Option Nat
  | [] => some acc
  | c :: cs =>
    match digitValue c with
    | some d => if d < base then readDigits base (base * acc + d) cs else none
    | none => none

/-- A number in decimal or in `0x` hexadecimal (R105 says so of `<byte>`). That leading zeros are allowed and
that every other number of the assembly is read in the same two forms is the model's choice (DESIGN
CHOICE, log entry 12). -/
def readNumber : List Char → Option Nat
  | [] => none
  | '0' :: 'x' :: c :: cs => readDigits 16 0 (c :: cs)
  | c :: cs => readDigits 10 0 (c :: cs)

/-- A number below a bound: an operand that fits its field. -/
def readBelow (bound : Nat) (t : List Char) : Option Nat :=
  match readNumber t with
  | some n => if n < bound then some n else none
  | none => none

/-- A word that is not empty, before the words after it. -/
def consWord (word : List Char) (rest : List (List Char)) : List (List Char) :=
  if word = [] then rest else word :: rest

/-- The words of a line up to its comment: separated by blanks, a comma being a word of its own. -/
def splitWords (word : List Char) : List Char → List (List Char)
  | [] => consWord word []
  | c :: cs =>
    if c = ';' then consWord word []
    else if c = ' ' ∨ c = '\t' then consWord word (splitWords [] cs)
    else if c = ',' then consWord word ([','] :: splitWords [] cs)
    else splitWords (word ++ [c]) cs

/-- What follows a fixed beginning of a word. -/
def afterKey : List Char → List Char → Option (List Char)
  | [], t => some t
  | k :: ks, c :: cs => if k = c then afterKey ks cs else none
  | _ :: _, [] => none

/-- The operations without operands (R105, R106). -/
def readBare (m : List Char) : Option Instr :=
  if m = ['R', 'E', 'S', 'E', 'T'] then some .reset
  else if m = ['T', 'I', 'C', 'K'] then some .tick
  else if m = ['S', 'T', 'A', 'R', 'T'] then some .start
  else if m = ['S', 'T', 'O', 'P'] then some .stop
  else if m = ['P', 'A', 'U', 'S', 'E'] then some .pause
  else if m = ['R', 'E', 'S', 'U', 'M', 'E'] then some .resume
  else if m = ['T', 'X', 'R', 'D', 'Y'] then some .txrdy
  else if m = ['T', 'X', 'P', 'O', 'L', 'L'] then some .txpoll
  else if m = ['F', 'R', 'A', 'M', 'E'] then some .frame
  else if m = ['D', 'R', 'A', 'I', 'N'] then some .drain
  else if m = ['S', 'E', 'N', 'D'] then some .send
  else none

/-- `RX <byte>` and `TICKS n` (R105, R106); the forms of `n` are the model's choice (log entry 12). -/
def readUnary (m a : List Char) : Option Instr :=
  if m = ['R', 'X'] then (readBelow 256 a).map fun n => .rx (BitVec.ofNat 8 n)
  else if m = ['T', 'I', 'C', 'K', 'S'] then (readNumber a).map .ticks
  else none

/-- `QF s, n` (R106). -/
def readQf (s n : List Char) : Option Instr :=
  match readBelow 8 s, readBelow 16 n with
  | some s, some n => some (.qf (BitVec.ofNat 3 s) (BitVec.ofNat 4 n))
  | _, _ => none

/-- `MTC h, m, s, f` (R106). -/
def readMtc (h m s f : List Char) : Option Instr :=
  match readBelow 32 h, readBelow 64 m, readBelow 64 s, readBelow 32 f with
  | some h, some m, some s, some f =>
    some (.mtc (BitVec.ofNat 5 h) (BitVec.ofNat 6 m) (BitVec.ofNat 6 s) (BitVec.ofNat 5 f))
  | _, _, _, _ => none

/-- A line of the trace assembly. -/
inductive AsmLine where
  | blank
  | header (fps : Nat) (txEnable : Bool)
  | operation (i : Instr)
deriving DecidableEq, Repr

/-- `CONFIG fps=<n> tx_enable=<0|1>` (R105). The rule writes the values as the literals 24, 25, 30 and 0, 1;
reading them as numbers, so that another spelling of the same number is accepted, is the model's choice
(DESIGN CHOICE, log entry 12). -/
def readHeader (a b : List Char) : Option AsmLine :=
  match (afterKey ['f', 'p', 's', '='] a).bind readNumber,
      (afterKey ['t', 'x', '_', 'e', 'n', 'a', 'b', 'l', 'e', '='] b).bind (readBelow 2) with
  | some n, some e => some (.header n (e == 1))
  | _, _ => none

/-- One line (R105, R106). -/
def readWords : List (List Char) → Option AsmLine
  | [] => some .blank
  | [m] => (readBare m).map .operation
  | [m, a] => (readUnary m a).map .operation
  | [m, a, b] => if m = ['C', 'O', 'N', 'F', 'I', 'G'] then readHeader a b else none
  | [m, a, c, b] => if m = ['Q', 'F'] ∧ c = [','] then (readQf a b).map .operation else none
  | [m, h, c, mi, d, s, e, f] =>
    if m = ['M', 'T', 'C'] ∧ c = [','] ∧ d = [','] ∧ e = [','] then (readMtc h mi s f).map .operation
    else none
  | _ => none

/-- One line of text (R105, R106). -/
def readLine (l : List Char) : Option AsmLine :=
  readWords (splitWords [] l)

/-- The event words of the lines after the header, numbered from `n`; `CONFIG` may not come again
(93_implementation_defined.md U4). -/
def assembleBody (n : Nat) : List (List Char) → Except Refusal (List EventWord)
  | [] => .ok []
  | l :: ls =>
    match readLine l with
    | none => .error (.malformedLine n)
    | some (.header _ _) => .error (.configurationChanged n)
    | some .blank => assembleBody (n + 1) ls
    | some (.operation i) =>
      match assembleBody (n + 1) ls with
      | .ok ws => .ok ((traceWords i).getD [] ++ ws)
      | .error r => .error r

/-- A whole trace: its configuration and its event words. Without a header the configuration is the
default of 95_test_vectors.md (log entries 3 and 12). -/
def assembleTrace (n : Nat) : List (List Char) → Except Refusal (Config × List EventWord)
  | [] => .ok (State.reset.config, [])
  | l :: ls =>
    match readLine l with
    | none => .error (.malformedLine n)
    | some .blank => assembleTrace (n + 1) ls
    | some (.header fps e) =>
      match FrameRate.select fps with
      | none => .error (.unsupportedFrameRate fps)
      | some r =>
        match assembleBody (n + 1) ls with
        | .ok ws => .ok (⟨r, e⟩, ws)
        | .error r => .error r
    | some (.operation _) =>
      match assembleBody n (l :: ls) with
      | .ok ws => .ok (State.reset.config, ws)
      | .error r => .error r

/-- The first entry of a trace that decodes to nothing, with its position (30_encoding.md R93). Whether
an entry decodes does not depend on the receiver's phase. -/
def firstReserved (n : Nat) : List Stimulus → Option Refusal
  | [] => none
  | x :: xs =>
    match decodeStimulus .idle x with
    | none => some (.reservedWord x n)
    | some _ => firstReserved (n + 1) xs

/-- A trace is loaded from outside into a machine that was reset (70_reset_and_hazards.md R283; log entry
1), or refused before the machine is given any of it (R93). -/
def State.load (c : Config) (trace : List Stimulus) : Host.Outcome State Fault Refusal :=
  match firstReserved 0 trace with
  | some r => .refused r
  | none => .next { State.reset with config := c, pending := trace }

/-- A trace in assembly text is loaded (R105). -/
def State.loadText (lines : List (List Char)) : Host.Outcome State Fault Refusal :=
  match assembleTrace 1 lines with
  | .ok (c, ws) => State.load c (ws.map fun w => .word w.toNat)
  | .error r => .refused r

end Sys2Proof.Machine
end

