-- ==== Sys2Proof/WellFormed.lean ====
section
/-! DEFINITION. Well-formed instructions. Operand widths are in the types of `Instr`; the one condition
left is that `RX.IGNORE` names a byte outside the tag bytes (30_encoding.md R96). -/

namespace Sys2Proof

/-- The condition of spec/opcode_table.json's row that the operand types do not express. -/
def Instr.wellFormed : Instr → Bool
  | .rxIgnore b => !isTagByte b
  | _ => true

end Sys2Proof
end

