-- ==== Sys2Proof/Safety.lean ====
section
/-! DEFINITION. What counts as a safe run, in the terms the statements use: valid counter values
(10_state.md R37), the counter read as one number (40_timecode_counter.md R134), and the invariants of
the machine. -/

namespace Sys2Proof

/-- `Valid(v, fps)` (10_state.md R37). -/
abbrev TimecodeValue.Valid (r : FrameRate) (v : TimecodeValue) : Prop :=
  v.hours.toNat ≤ 23 ∧ v.minutes.toNat ≤ 59 ∧ v.seconds.toNat ≤ 59 ∧ v.frames.toNat ≤ r.perSecond - 1

/-- `N(tc)`, the counter read as a single number (40_timecode_counter.md R134). -/
def TimecodeValue.number (r : FrameRate) (v : TimecodeValue) : Nat :=
  ((v.hours.toNat * 60 + v.minutes.toNat) * 60 + v.seconds.toNat) * r.perSecond + v.frames.toNat

/-- The byte a stimulus delivers to the receiver, if it delivers one: an event word `RX b`, a serial byte,
or a clock edge with `rx_valid` and without `rst` (45_top_level_step.md R231, R232). -/
def Stimulus.deliversByte : Stimulus → Option Byte
  | .word w =>
    match decodeWord w with
    | some (.rx b) => some b
    | _ => none
  | .byte b => some b
  | .edge i => if i.rxValid && !i.rst then some i.rxData else none

end Sys2Proof

namespace Sys2Proof.Machine

/-- `n` steps, stopping at the first refusal. -/
def stepTimes : Nat → State → Host.Outcome State Fault Refusal
  | 0, s => .next s
  | n + 1, s =>
    match step s with
    | .next t => stepTimes n t
    | .fault r => .fault r
    | .refused r => .refused r

/-- The level for bit `shift` of a field, by arithmetic (30_encoding.md R102, R103). -/
def bitLevel (field shift : Nat) : Level :=
  if field / 2 ^ shift % 2 = 1 then .high else .low

/-- What slot `c` of a line frame has to show for a counter value: the tables of R101 and R102, by
arithmetic on the field's number. -/
def expectedLevel (v : TimecodeValue) (c : Nat) : Level :=
  if c < 32 then bitLevel v.frames.toNat (c % 4)
  else if c < 40 then bitLevel v.seconds.toNat (c - 32)
  else if c < 48 then bitLevel v.minutes.toNat (c - 40)
  else if c < 79 then bitLevel v.hours.toNat (c - 48)
  else .ground

/-- The sixteen bytes that a transfer has to consist of, as numbers: the tables of 30_encoding.md R97 and
R98. -/
def expectedTransfer (v : TimecodeValue) : List Nat :=
  [0xF0, v.frames.toNat % 16, 0xF1, v.frames.toNat / 16,
   0xF2, v.seconds.toNat % 16, 0xF3, v.seconds.toNat / 16,
   0xF4, v.minutes.toNat % 16, 0xF5, v.minutes.toNat / 16,
   0xF6, v.hours.toNat % 16, 0xF7, v.hours.toNat / 16]

/-- The value that slots with these contents have to give, by arithmetic (30_encoding.md R100). -/
def IsAssembled (v : TimecodeValue) (s0 s1 s2 s3 s4 s5 s6 s7 : Nibble) : Prop :=
  v.frames.toNat = 16 * (s1.toNat % 2) + s0.toNat ∧
  v.seconds.toNat = 16 * (s3.toNat % 4) + s2.toNat ∧
  v.minutes.toNat = 16 * (s5.toNat % 4) + s4.toNat ∧
  v.hours.toNat = 16 * (s7.toNat % 2) + s6.toNat

/-- The external operations, those with an event word (00_scope.md R5, 30_encoding.md R92). -/
abbrev IsExternal (i : Instr) : Prop :=
  (encodeEvent i).isSome = true

/-- A data byte is expected for slot 7, so the next byte triggers a reassembly (42_quarter_frame_receiver.md R176). -/
abbrev State.AwaitsSlotSeven (s : State) : Prop :=
  s.rxPhase = .data ∧ s.rxSlot = 7

/-- The flag pair (0,1) is never held (10_state.md R28). -/
abbrev State.FlagsLegal (s : State) : Prop :=
  s.clockPaused = true → s.clockStarted = true

/-- `level` is the last level written to the line, or `GROUND` before the first (10_state.md R25, R36). -/
abbrev State.LevelIsLastWritten (s : State) : Prop :=
  s.level = s.lineTrace.getLast?.getD .ground

/-- `tx_out` is a concatenation of whole transfers, followed by the bytes already accepted of the transfer in
progress (43_quarter_frame_transmitter.md R197 (a)). -/
def State.TransfersWhole (s : State) : Prop :=
  ∃ sent : List TimecodeValue, s.txTrace = (sent.map transferBytes).flatten ++
    (if s.txBusy then (transferBytes s.txLatch).take s.txIdx.toNat else [])

/-- With `tx_enable = 0` nothing is ever transmitted (R197 (c)). -/
abbrev State.SilentWhenDisabled (s : State) : Prop :=
  s.config.txEnable = false → s.txBusy = false ∧ s.txTrace = []

/-- No byte is emitted, offered or due before the first frame has been put on the line, 80 levels
(R197 (c)); with it, the cursor never runs ahead of the line. -/
abbrev State.NothingSentBeforeFirstFrame (s : State) : Prop :=
  s.cursor.val ≤ s.lineTrace.length ∧
    (s.txPending = true ∨ s.txBusy = true ∨ s.txTrace ≠ [] → 80 ≤ s.lineTrace.length)

/-- The invariant of the machine. -/
structure State.Sound (s : State) : Prop where
  flags : s.FlagsLegal
  level : s.LevelIsLastWritten
  transfers : s.TransfersWhole
  silent : s.SilentWhenDisabled
  waits : s.NothingSentBeforeFirstFrame

/-- Delivering byte `b` now does not load an invalid value into the counter: either it triggers no
reassembly, or the value assembled is valid (the premise `InputsValid` of
93_implementation_defined.md U1). -/
abbrev State.LoadsValid (s : State) (b : Byte) : Prop :=
  s.rxPhase = .data → s.rxSlot = 7 →
    (assemble (writeSlot s.slot 7 (dataNibble b))).Valid s.config.fps

end Sys2Proof.Machine
end

