-- ==== Sys2Proof/Certificates/Slice0/Obligations.lean ====
section
/-! DEFINITION. The statements about the model, for the provers. -/

open Sys2Proof Sys2Proof.Machine

/-! ### The step, reset and totality -/

/-- One step takes the first pending stimulus, decodes it in the receiver's phase and performs it, with the rest
still pending; a reserved word is refused; with nothing pending nothing changes. That the environment's
operations wait in `pending` is the model's choice (log entries 1, 2, 10). -/
def Obligations.StepPerformsTheFirstPendingOperation : Prop :=
  ∀ s : State,
    (s.pending = [] → step s = .next s) ∧
    (∀ x rest, s.pending = x :: rest →
      (∀ i, decodeStimulus s.rxPhase x = some i → step s = exec i { s with pending := rest }) ∧
      (decodeStimulus s.rxPhase x = none → step s = .refused (.reservedWord x 0)))

/-- Every operation has a next state from every state and every operand (60_exceptions.md section 1), and none
writes the configuration inputs (10_state.md section 6) or what the environment issues next. -/
def Obligations.EveryOperationCompletes : Prop :=
  ∀ (i : Instr) (s : State), ∃ t : State,
    exec i s = .next t ∧ t.config = s.config ∧ t.pending = s.pending

/-- `RESET` in every state, also in mid-frame, mid-message and mid-transfer. Keeping the configuration and the
pending operations is log entry 9. -/
def Obligations.ResetRestoresEveryRegister : Prop :=
  ∀ s : State, exec .reset s = .next
    { tc := ⟨0, 0, 0, 0⟩, cursor := 0, level := .ground, slot := #v[0, 0, 0, 0, 0, 0, 0, 0],
      rxPhase := .idle, rxSlot := 0, clockStarted := false, clockPaused := false,
      txPending := false, txBusy := false, txIdx := 0, txLatch := ⟨0, 0, 0, 0⟩,
      lineTrace := [], txTrace := [], config := s.config, pending := s.pending }

/-- No operation but `RESET`, `INC` and `SETFROM` writes the counter, and it is zero at system start (10_state.md
section 2, R22). Of the external operations that is the wrap tick, which performs `INC`, the byte that reassembles,
which performs `SETFROM` (R23, R173), and `RESET`. That the wrap tick is the one taken while Running at slot 79 is the
spec's own decision D6 (log entry 16). -/
def Obligations.CounterHasTwoWritersAndReset : Prop :=
  State.reset.tc = ⟨0, 0, 0, 0⟩ ∧
  ∀ (i : Instr) (s t : State), IsExternal i → exec i s = .next t →
    t.tc = s.tc ∨
    (i = .tick ∧ s.transport = .running ∧ s.cursor.val = 79 ∧ exec .inc s = .next { s with tc := t.tc }) ∨
    (∃ b, i = .rx b ∧ s.AwaitsSlotSeven ∧ exec (.setfrom t.tc) s = .next { s with tc := t.tc }) ∨
    (i = .reset ∧ t.tc = ⟨0, 0, 0, 0⟩)

/-- Who may write what, on the external operations, `RESET` apart (20_memory.md R75 and the frames of the operations):
only `TICK` writes the output level and the cursor, only `TXRDY` the serial output, only a received byte the receiver's
registers, only `TXRDY` and `TXPOLL` those of the transfer, only `TICK` and `TXPOLL` the frame-complete flag, only
`TICK` and a reassembly the counter, and only the control operations and a reassembly the transport flags. -/
def Obligations.OnlyTheOwnersWrite : Prop :=
  ∀ (i : Instr) (s t : State), IsExternal i → i ≠ .reset → exec i s = .next t →
    (i ≠ .tick → t.level = s.level ∧ t.lineTrace = s.lineTrace ∧ t.cursor = s.cursor) ∧
    (i ≠ .txrdy → t.txTrace = s.txTrace) ∧
    ((∀ b, i ≠ .rx b) → t.slot = s.slot ∧ t.rxPhase = s.rxPhase ∧ t.rxSlot = s.rxSlot) ∧
    (i ≠ .txrdy → i ≠ .txpoll →
      t.txBusy = s.txBusy ∧ t.txIdx = s.txIdx ∧ t.txLatch = s.txLatch) ∧
    (i ≠ .tick → i ≠ .txpoll → t.txPending = s.txPending) ∧
    (i ≠ .tick → ¬ (s.AwaitsSlotSeven ∧ ∃ b, i = .rx b) → t.tc = s.tc) ∧
    (i ∉ [.start, .stop, .pause, .resume] → ¬ (s.AwaitsSlotSeven ∧ ∃ b, i = .rx b) →
      t.clockStarted = s.clockStarted ∧ t.clockPaused = s.clockPaused)

/-! ### timecode_counter -/

/-- `INC` field by field, from every counter value, valid or not (40_timecode_counter.md section 1). The comparison
`>=` from values that are not valid is the spec's own decision D4. Nothing but the counter is written. -/
def Obligations.IncrementFieldByField : Prop :=
  ∀ s : State, ∃ t : TimecodeValue, exec .inc s = .next { s with tc := t } ∧
    let fps := s.config.fps.perSecond
    let f := s.tc.frames.toNat
    let sec := s.tc.seconds.toNat
    let m := s.tc.minutes.toNat
    let h := s.tc.hours.toNat
    t.frames.toNat = (if f + 1 ≥ fps then 0 else f + 1) ∧
    t.seconds.toNat = (if f + 1 ≥ fps then (if sec + 1 ≥ 60 then 0 else sec + 1) else sec) ∧
    t.minutes.toNat = (if f + 1 ≥ fps ∧ sec + 1 ≥ 60 then (if m + 1 ≥ 60 then 0 else m + 1) else m) ∧
    t.hours.toNat =
      (if f + 1 ≥ fps ∧ sec + 1 ≥ 60 ∧ m + 1 ≥ 60 then (if h + 1 ≥ 24 then 0 else h + 1) else h)

/-- On valid values `INC` keeps validity and counts one frame modulo the day (the laws (a) and (b) of R134, which
the spec derives from R130). -/
def Obligations.IncrementCountsOneFrame : Prop :=
  ∀ s : State, s.tc.Valid s.config.fps → ∃ t : TimecodeValue, exec .inc s = .next { s with tc := t } ∧
    t.Valid s.config.fps ∧
    t.number s.config.fps = (s.tc.number s.config.fps + 1) % (24 * 3600 * s.config.fps.perSecond)

/-- The testable properties of R134 (c), derived from R130: `n` increments of a valid value add `n`
modulo the day, `fps` increments leave the frames field, and a whole day of increments is the identity. -/
def Obligations.IncrementRunsThroughADay : Prop :=
  ∀ (r : FrameRate) (v : TimecodeValue), v.Valid r →
    (∀ n, ((TimecodeValue.inc r.perSecond)^[n] v).number r = (v.number r + n) % (24 * 3600 * r.perSecond)) ∧
    ((TimecodeValue.inc r.perSecond)^[r.perSecond] v).frames = v.frames ∧
    (TimecodeValue.inc r.perSecond)^[24 * 3600 * r.perSecond] v = v

/-- `SETFROM(v)` for every value of the register widths, valid or not: exactly `v` is stored, nothing else is
written, and the readout ports show it; it has no encoding (40_timecode_counter.md R131). -/
def Obligations.SetFromStoresAnyValue : Prop :=
  ∀ (v : TimecodeValue) (s : State), encode (.setfrom v) = none ∧
    ∃ t : State, exec (.setfrom v) s = .next t ∧ t = { s with tc := v } ∧
    t.outputs.tcHours = v.hours ∧ t.outputs.tcMinutes = v.minutes ∧
    t.outputs.tcSeconds = v.seconds ∧ t.outputs.tcFrames = v.frames

/-! ### line_level_encoder -/

/-- A tick in a data slot while Running: the level of the slot's bit is written, the cursor advances, nothing else
changes. Slot places and level codes rest on the spec's decisions D6, D7, D8. -/
def Obligations.TickShowsOneBit : Prop :=
  ∀ (s : State) (c : Fin 80), s.transport = .running → c.val = s.cursor.val + 1 →
    exec .tick s = .next
      { s with level := expectedLevel s.tc s.cursor.val
               lineTrace := s.lineTrace ++ [expectedLevel s.tc s.cursor.val]
               cursor := c }

/-- The wrap tick: ground, cursor to 0, exactly the increment that `INC` makes, the frame-complete flag, and nothing
else. That slot 79 is the ground tick is the spec's decision D6. -/
def Obligations.TickAtSlotSeventyNineWraps : Prop :=
  ∀ s : State, s.transport = .running → s.cursor.val = 79 →
    ∃ t : TimecodeValue, exec .inc s = .next { s with tc := t } ∧
      exec .tick s = .next
        { s with level := .ground, lineTrace := s.lineTrace ++ [.ground], cursor := 0, tc := t,
                 txPending := true }

/-- `n` ticks while Stopped or Paused write `n` grounds and change nothing else. For Stopped this is the spec's
decision D9. -/
def Obligations.TicksWhileNotRunningOnlyGround : Prop :=
  ∀ (n : Nat) (s : State), s.transport ≠ .running →
    exec .tick s = .next { s with level := .ground, lineTrace := s.lineTrace ++ [.ground] } ∧
    exec (.ticks n) s = .next
      { s with level := if n = 0 then s.level else .ground
               lineTrace := s.lineTrace ++ List.replicate n .ground }

/-- The five rows of the line frame, each in its own range of the cursor while Running: the level of the row's own
field and bit (30_encoding.md section 3; decisions D6, D7, D8). -/
def Obligations.LineRowsShowTheirField : Prop :=
  ∀ (s : State) (c : Fin 80), s.transport = .running →
    let shows := fun (l : Level) => Host.Outcome.next (φ := Fault) (ρ := Refusal)
      { s with level := l, lineTrace := s.lineTrace ++ [l], cursor := c }
    (s.cursor.val < 32 → c.val = s.cursor.val + 1 →
      exec .lineFrames s = shows (bitLevel s.tc.frames.toNat (s.cursor.val % 4))) ∧
    (32 ≤ s.cursor.val → s.cursor.val < 40 → c.val = s.cursor.val + 1 →
      exec .lineSeconds s = shows (bitLevel s.tc.seconds.toNat (s.cursor.val - 32))) ∧
    (40 ≤ s.cursor.val → s.cursor.val < 48 → c.val = s.cursor.val + 1 →
      exec .lineMinutes s = shows (bitLevel s.tc.minutes.toNat (s.cursor.val - 40))) ∧
    (48 ≤ s.cursor.val → s.cursor.val < 79 → c.val = s.cursor.val + 1 →
      exec .lineHours s = shows (bitLevel s.tc.hours.toNat (s.cursor.val - 48))) ∧
    (s.cursor.val = 79 → ∃ t : TimecodeValue, exec .inc s = .next { s with tc := t } ∧
      exec .lineGround s = .next
        { s with level := .ground, lineTrace := s.lineTrace ++ [.ground], cursor := 0, tc := t,
                 txPending := true })

/-- In every state, each row of the line frame is the tick it names a case of (log entry 7). -/
def Obligations.LineRowsAgreeWithTick : Prop :=
  ∀ s : State, ∃ t : State, exec .tick s = .next t ∧
    exec .lineFrames s = .next t ∧ exec .lineSeconds s = .next t ∧ exec .lineMinutes s = .next t ∧
    exec .lineHours s = .next t ∧ exec .lineGround s = .next t

/-- From cursor 0 while Running, `FRAME` puts the 80 slots of the counter's value on the line, wraps once, and
changes nothing else (30_encoding.md section 3, 41_line_level_encoder.md sections 1 and 3; decisions D6, D7, D8). -/
def Obligations.FrameShowsTheCounter : Prop :=
  ∀ s : State, s.transport = .running → s.cursor.val = 0 →
    ∃ t : TimecodeValue, exec .inc s = .next { s with tc := t } ∧
      exec .frame s = .next
        { s with level := .ground
                 lineTrace := s.lineTrace ++ (List.range 80).map (expectedLevel s.tc)
                 tc := t
                 txPending := true }

/-- The reference extractor applied to the 80 levels of a frame gives back seconds, minutes and hours, and frames
modulo 16 (41_line_level_encoder.md section 4, which the spec derives). -/
def Obligations.FrameDecodesBack : Prop :=
  ∀ s : State, s.transport = .running → s.cursor.val = 0 →
    ∃ (t : State) (levels : List Level), exec .frame s = .next t ∧ t.lineTrace = s.lineTrace ++ levels ∧
      levels.length = 80 ∧ levels[79]? = some .ground ∧
      extractField levels 0 4 = s.tc.frames.toNat % 16 ∧
      extractField levels 32 6 = s.tc.seconds.toNat ∧
      extractField levels 40 6 = s.tc.minutes.toNat ∧
      extractField levels 48 5 = s.tc.hours.toNat ∧
      (∀ c, c < 32 → levels[c]? = levels[c % 4]?) ∧
      (∀ c ∈ [38, 39, 46, 47], levels[c]? = some .low) ∧
      (∀ c, 53 ≤ c → c < 79 → levels[c]? = some .low)

/-- Any 80 consecutive ticks while Running, from any cursor: 80 levels of which exactly one is ground, exactly one
increment, and the cursor is back where it was (41_line_level_encoder.md section 1, which the spec derives). -/
def Obligations.EightyTicksWrapOnce : Prop :=
  ∀ s : State, s.transport = .running →
    ∃ (t : TimecodeValue) (levels : List Level) (l : Level), exec .inc s = .next { s with tc := t } ∧
      levels.length = 80 ∧ levels.count .ground = 1 ∧
      exec (.ticks 80) s = .next
        { s with level := l, lineTrace := s.lineTrace ++ levels, tc := t, txPending := true }

/-- A counter replaced between two ticks of a frame: the slots before it show the old value, those after it the new
one, and the wrap increments the new one (20_memory.md section 5, 70_reset_and_hazards.md H2, which the spec derives). -/
def Obligations.TornFrameShowsBothValues : Prop :=
  ∀ (s : State) (v : TimecodeValue) (k : Nat), s.transport = .running → s.cursor.val = 0 → k < 80 →
    ∃ a b t : State, exec (.ticks k) s = .next a ∧ exec (.setfrom v) a = .next b ∧
      exec (.ticks (80 - k)) b = .next t ∧
      t.lineTrace = s.lineTrace ++ (List.range k).map (expectedLevel s.tc) ++
        ((List.range 80).drop k).map (expectedLevel v) ∧
      t.tc = v.inc s.config.fps.perSecond ∧ t.cursor = s.cursor

/-- A pause, `n` ticks and a resume inside a frame: the level is held until the first tick, `n` grounds come between,
and the frame continues at the same slot with the same counter; likewise for a stop and a start
(70_reset_and_hazards.md H9, which the spec derives; for Stopped, decision D9). -/
def Obligations.PauseFreezesTheFrame : Prop :=
  ∀ (s : State) (n : Nat), s.transport = .running →
    (∃ a b t : State, exec .pause s = .next a ∧ a.level = s.level ∧ exec (.ticks n) a = .next b ∧
      exec .resume b = .next t ∧
      t = { s with level := if n = 0 then s.level else .ground
                   lineTrace := s.lineTrace ++ List.replicate n .ground }) ∧
    (∃ a b t : State, exec .stop s = .next a ∧ a.level = s.level ∧ exec (.ticks n) a = .next b ∧
      exec .start b = .next t ∧
      t = { s with level := if n = 0 then s.level else .ground
                   lineTrace := s.lineTrace ++ List.replicate n .ground })

/-! ### quarter_frame_receiver -/

/-- A tag byte, 0xF0 to 0xF7, where a tag is expected: its slot is remembered, the data byte is expected next, nothing
else changes (42_quarter_frame_receiver.md R171). -/
def Obligations.TagByteIsRemembered : Prop :=
  ∀ (s : State) (b : Byte) (k : BitVec 3), s.rxPhase = .idle → b.toNat = 0xF0 + k.toNat →
    exec (.rx b) s = .next { s with rxSlot := k, rxPhase := .data } ∧
    exec (.rxTag k) s = .next { s with rxSlot := k, rxPhase := .data }

/-- A data byte of a slot other than 7, whatever its value: its low nibble is stored at the tagged slot, a tag is
expected again, nothing else changes. Taking malformed bytes as data is the spec's decisions D11, D12. -/
def Obligations.DataByteIsStored : Prop :=
  ∀ (s : State) (b : Byte) (u n : Nibble), s.rxPhase = .data → s.rxSlot ≠ 7 →
    b.toNat = 16 * u.toNat + n.toNat →
    exec (.rx b) s = .next { s with slot := s.slot.set s.rxSlot.toNat n s.rxSlot.isLt, rxPhase := .idle } ∧
    exec (.rxData u n) s =
      .next { s with slot := s.slot.set s.rxSlot.toNat n s.rxSlot.isLt, rxPhase := .idle }

/-- The data byte of slot 7: stored, and in the same transition the counter is loaded from all eight slots, unchecked
and stale as they may be, and the transport is started. The masks are the spec's decision D3, the start D14. -/
def Obligations.SlotSevenReassembles : Prop :=
  ∀ (s : State) (b : Byte) (u n : Nibble), s.rxPhase = .data → s.rxSlot = 7 →
    b.toNat = 16 * u.toNat + n.toNat →
    ∃ v : TimecodeValue,
      IsAssembled v s.slot[0] s.slot[1] s.slot[2] s.slot[3] s.slot[4] s.slot[5] s.slot[6] n ∧
      exec (.rx b) s = .next
        { s with slot := s.slot.set 7 n, rxPhase := .idle, tc := v, clockStarted := true, clockPaused := false } ∧
      exec (.rxData u n) s = .next
        { s with slot := s.slot.set 7 n, rxPhase := .idle, tc := v, clockStarted := true, clockPaused := false }

/-- A byte outside 0xF0 to 0xF7 where a tag is expected changes nothing (42_quarter_frame_receiver.md section 1,
ignored bytes; for 0xF8 to 0xFF decision D13). -/
def Obligations.OtherBytesAreIgnored : Prop :=
  ∀ (s : State) (b : Byte), s.rxPhase = .idle → (b.toNat < 0xF0 ∨ 0xF8 ≤ b.toNat) →
    exec (.rx b) s = .next s ∧ exec (.rxIgnore b) s = .next s

/-- In every state, each received-byte row is the arrival of its byte (log entry 7). -/
def Obligations.ReceivedByteRowsAgreeWithRx : Prop :=
  ∀ (s : State) (b : Byte),
    (∀ k : BitVec 3, b.toNat = 0xF0 + k.toNat → exec (.rxTag k) s = exec (.rx b) s) ∧
    (∀ u n : Nibble, b.toNat = 16 * u.toNat + n.toNat → exec (.rxData u n) s = exec (.rx b) s) ∧
    exec (.rxIgnore b) s = exec (.rx b) s

/-- A lost data byte: the next tag byte is stored as data in the earlier tag's slot, the orphaned data byte is
ignored, and the receiver is aligned again (20_memory.md section 3, 90_conflicts.md C13; decisions D12, D13). -/
def Obligations.LostDataByteCostsTwoMessages : Prop :=
  ∀ (s : State) (j k : BitVec 3) (n : Nibble) (rest : List Stimulus), s.rxPhase = .idle → j ≠ 7 →
    stepTimes 3
      { s with pending := [.byte (tagByte j), .byte (tagByte k), .byte (dataByte 0 n)] ++ rest } =
    .next { s with slot := s.slot.set j.toNat (BitVec.ofNat 4 k.toNat) j.isLt, rxSlot := j, pending := rest }

/-- One whole message `QF k, n` where a tag is expected: for slots 0 to 6 only that slot is written; for slot 7 the
counter is loaded from the new nibble and whatever the other seven slots hold (30_encoding.md section 5; decisions
D3, D12, D14). -/
def Obligations.MessageFillsItsSlot : Prop :=
  ∀ (s : State) (k : BitVec 3) (n : Nibble), s.rxPhase = .idle →
    (k ≠ 7 → exec (.qf k n) s = .next { s with slot := s.slot.set k.toNat n k.isLt, rxSlot := k }) ∧
    (k = 7 → ∃ v : TimecodeValue,
      IsAssembled v s.slot[0] s.slot[1] s.slot[2] s.slot[3] s.slot[4] s.slot[5] s.slot[6] n ∧
      exec (.qf k n) s = .next
        { s with slot := s.slot.set 7 n, rxSlot := 7, tc := v, clockStarted := true, clockPaused := false })

/-- The eight messages of `MTC h, m, s, f` where a tag is expected load exactly that value and start the transport,
whatever the slots held (R176 (c), which the spec derives; decisions D3, D12, D14). -/
def Obligations.MtcLoadsTheExactValue : Prop :=
  ∀ (s : State) (h : BitVec 5) (m sec : BitVec 6) (f : BitVec 5), s.rxPhase = .idle →
    ∃ slots : Vector Nibble 8,
      slots.toList.map BitVec.toNat =
        [f.toNat % 16, f.toNat / 16, sec.toNat % 16, sec.toNat / 16,
         m.toNat % 16, m.toNat / 16, h.toNat % 16, h.toNat / 16] ∧
      exec (.mtc h m sec f) s = .next
        { s with tc := ⟨h, m, sec, f⟩, slot := slots, rxSlot := 7, clockStarted := true, clockPaused := false }

/-- The round-trip law: the sixteen bytes transmitted for any value of the register widths, fed one a step to a
receiver that expects a tag, reassemble exactly that value and start the transport (R176 (d), R197 (b), which the
spec derives). -/
def Obligations.TransmittedValueIsReceivedExactly : Prop :=
  ∀ (s : State) (v : TimecodeValue) (rest : List Stimulus), s.rxPhase = .idle →
    ∃ t : State,
      stepTimes 16 { s with pending := (transferBytes v).map .byte ++ rest } = .next t ∧
      t.tc = v ∧ t.transport = .running ∧ t.rxPhase = .idle ∧ t.pending = rest ∧
      t.cursor = s.cursor ∧ t.level = s.level ∧ t.txTrace = s.txTrace ∧ t.lineTrace = s.lineTrace

/-! ### quarter_frame_transmitter -/

/-- `TXPOLL` in each of its cases (43_quarter_frame_transmitter.md section 1; the hand-off is the spec's decisions
D16, D17, D26). -/
def Obligations.PollServesTheFrameFlag : Prop :=
  ∀ s : State,
    (s.txPending = true → s.txBusy = false → s.transport = .running → s.config.txEnable = true →
      exec .txpoll s = .next { s with txPending := false, txLatch := s.tc, txIdx := 0, txBusy := true }) ∧
    (s.txPending = true → s.txBusy = false → (s.transport ≠ .running ∨ s.config.txEnable = false) →
      exec .txpoll s = .next { s with txPending := false }) ∧
    ((s.txPending = false ∨ s.txBusy = true) → exec .txpoll s = .next s)

/-- `TXRDY`: while a transfer is in progress exactly its next byte is emitted, and after byte 15 the transfer ends
with `tx_idx` kept; with none nothing changes (43_quarter_frame_transmitter.md section 1; decision D17). -/
def Obligations.ReadySinkTakesOneByte : Prop :=
  ∀ s : State,
    (s.txBusy = true → ∃ (b : Byte) (i : BitVec 4),
      (expectedTransfer s.txLatch)[s.txIdx.toNat]? = some b.toNat ∧
      i.toNat = (if s.txIdx.toNat = 15 then 15 else s.txIdx.toNat + 1) ∧
      exec .txrdy s = .next
        { s with txTrace := s.txTrace ++ [b], txIdx := i, txBusy := decide (s.txIdx.toNat ≠ 15) }) ∧
    (s.txBusy = false → exec .txrdy s = .next s)

/-- The two rows of the transmitted byte: with the transfer at an even index `TX.TAG` emits the tag byte `0xF0 | k`,
with it at an odd index `TX.DATA` emits the data byte (30_encoding.md section 2, 43_quarter_frame_transmitter.md
section 1; decision D17). -/
def Obligations.TransmitRowsEmitTheirByte : Prop :=
  ∀ (s : State) (b : Byte), s.txBusy = true →
    (s.txIdx.toNat % 2 = 0 → b.toNat = 0xF0 + s.txIdx.toNat / 2 →
      exec .txTag s = .next { s with txTrace := s.txTrace ++ [b], txIdx := s.txIdx + 1 }) ∧
    (s.txIdx.toNat % 2 = 1 → (expectedTransfer s.txLatch)[s.txIdx.toNat]? = some b.toNat →
      s.txIdx.toNat ≠ 15 →
      exec .txData s = .next { s with txTrace := s.txTrace ++ [b], txIdx := s.txIdx + 1 }) ∧
    (s.txIdx.toNat = 15 → b.toNat = s.txLatch.hours.toNat / 16 →
      exec .txData s = .next { s with txTrace := s.txTrace ++ [b], txBusy := false })

/-- In every state, both rows of the transmitted byte are the acceptance they name a case of (log entry 7). -/
def Obligations.TransmitRowsAgreeWithTxrdy : Prop :=
  ∀ s : State, ∃ t : State, exec .txrdy s = .next t ∧ exec .txTag s = .next t ∧ exec .txData s = .next t

/-- The sixteen bytes of a transfer, for every value of the register widths (43_quarter_frame_transmitter.md R192,
R193, 30_encoding.md R98). -/
def Obligations.TransferLayout : Prop :=
  ∀ v : TimecodeValue, (transferBytes v).map BitVec.toNat = expectedTransfer v

/-- `DRAIN` sends what is left of the transfer in progress, from the latch, and ends it; with none it changes nothing
(43_quarter_frame_transmitter.md sections 1 and 2; decision D17). -/
def Obligations.DrainSendsTheRest : Prop :=
  ∀ s : State,
    (s.txBusy = true → ∃ bytes : List Byte,
      bytes.map BitVec.toNat = (expectedTransfer s.txLatch).drop s.txIdx.toNat ∧
      exec .drain s = .next { s with txTrace := s.txTrace ++ bytes, txIdx := 15, txBusy := false }) ∧
    (s.txBusy = false → exec .drain s = .next s)

/-- `SEND` in each of its cases: a completed frame is transmitted whole, a frame that may not be transmitted is
dropped, a transfer in progress is completed and the flag kept, and otherwise nothing happens (30_encoding.md section
5, 43_quarter_frame_transmitter.md section 1; decisions D16, D17, D26). -/
def Obligations.SendTransmitsTheCounter : Prop :=
  ∀ s : State,
    (s.txPending = true → s.txBusy = false → s.transport = .running → s.config.txEnable = true →
      ∃ bytes : List Byte, bytes.map BitVec.toNat = expectedTransfer s.tc ∧
        exec .send s = .next
          { s with txPending := false, txLatch := s.tc, txIdx := 15, txTrace := s.txTrace ++ bytes }) ∧
    (s.txPending = true → s.txBusy = false → (s.transport ≠ .running ∨ s.config.txEnable = false) →
      exec .send s = .next { s with txPending := false }) ∧
    (s.txBusy = true → exec .send s = exec .drain s) ∧
    (s.txPending = false → s.txBusy = false → exec .send s = .next s)

/-- A transfer in progress is not aborted, restarted or altered by any operation but `RESET` and the acceptance of
its bytes (43_quarter_frame_transmitter.md section 2; decision D17). -/
def Obligations.TransferIsUndisturbed : Prop :=
  ∀ (i : Instr) (s t : State), IsExternal i → i ≠ .reset → i ≠ .txrdy → s.txBusy = true → exec i s = .next t →
    t.txBusy = true ∧ t.txIdx = s.txIdx ∧ t.txLatch = s.txLatch ∧ t.txTrace = s.txTrace

/-- Coalescing: `n` frames that complete during a transfer are followed by exactly one transfer, of the counter's value
at the poll; a second poll starts none (43_quarter_frame_transmitter.md section 2; decision D16). -/
def Obligations.WrapsDuringATransferCoalesce : Prop :=
  ∀ (s : State) (n : Nat), s.transport = .running → s.cursor.val = 0 → s.txBusy = true →
    s.config.txEnable = true → 0 < n →
    ∃ a b c : State, exec (.ticks (80 * n)) s = .next a ∧ a.txBusy = true ∧ a.txLatch = s.txLatch ∧
      exec .drain a = .next b ∧ exec .txpoll b = .next c ∧
      c.txBusy = true ∧ c.txIdx = 0 ∧ c.txPending = false ∧
      c.txLatch = (TimecodeValue.inc s.config.fps.perSecond)^[n] s.tc ∧
      exec .txpoll c = .next c

/-! ### transport_state_machine -/

/-- The transition table of the control operations on the transport state, and that they write nothing but the two
flags (44_transport_controller.md section 2; decisions D15, D21). -/
def Obligations.TransportTransitionTable : Prop :=
  ∀ s : State, s.FlagsLegal →
    ∃ a b c d : State,
      exec .start s = .next a ∧ a.transport = .running ∧
      exec .stop s = .next b ∧ b.transport = .stopped ∧
      exec .pause s = .next c ∧ c.transport = (if s.transport = .running then .paused else s.transport) ∧
      exec .resume s = .next d ∧ d.transport = (if s.transport = .paused then .running else s.transport) ∧
      ∀ t ∈ [a, b, c, d], t = { s with clockStarted := t.clockStarted, clockPaused := t.clockPaused }

/-- What `STOP` writes: both flags are reset, and the counter, the cursor and everything else keep their values, in
every state; it is event word 0x400 and the input `stop` for one clock cycle (44_transport_controller.md R211). -/
def Obligations.StopResetsOnlyTheFlags : Prop :=
  encode .stop = some (.word 0x400) ∧ portsOf .stop = some { quietCycle with stop := true } ∧
  ∀ s : State, ∃ t : State, exec .stop s = .next t ∧ t.transport = .stopped ∧
    t.clockStarted = false ∧ t.clockPaused = false ∧
    t = { s with clockStarted := t.clockStarted, clockPaused := t.clockPaused }

/-- The flags after `START`, `PAUSE` and `RESUME` for all four flag pairs, the unreachable one included
(95_test_vectors.md section 2.5; decision D15). -/
def Obligations.TransportFlagsTable : Prop :=
  ∀ s : State,
    exec .start s = .next { s with clockStarted := true, clockPaused := false } ∧
    exec .pause s = .next { s with clockPaused := s.clockStarted || s.clockPaused } ∧
    exec .resume s = .next { s with clockPaused := !s.clockStarted && s.clockPaused }

/-- Each control operation repeated is the operation once (45_top_level_step.md section 3, which the spec derives). -/
def Obligations.ControlsAreIdempotent : Prop :=
  ∀ (i : Instr) (s t : State), i ∈ [.start, .stop, .pause, .resume] → exec i s = .next t →
    exec i t = .next t

/-! ### Top level: the clocked shell -/

/-- `CYCLE` is the fixed sequence, each operation if its input is 1, `TXPOLL` always last, `RESET` overriding all
(45_top_level_step.md section 2; the order is the spec's decision D18). -/
def Obligations.CycleIsTheFixedSequence : Prop :=
  ∀ (s : State) (i : CycleInputs),
    (i.rst = true → exec (.cycle i) s = exec .reset s) ∧
    (i.rst = false → ∃ s1 s2 s3 s4 s5 s6 s7 : State,
      (if i.start then exec .start s else .next s) = .next s1 ∧
      (if i.resume then exec .resume s1 else .next s1) = .next s2 ∧
      (if i.pause then exec .pause s2 else .next s2) = .next s3 ∧
      (if i.stop then exec .stop s3 else .next s3) = .next s4 ∧
      (if i.tick then exec .tick s4 else .next s4) = .next s5 ∧
      (if i.rxValid then exec (.rx i.rxData) s5 else .next s5) = .next s6 ∧
      (if i.txReady then exec .txrdy s6 else .next s6) = .next s7 ∧
      exec (.cycle i) s = exec .txpoll s7)

/-- Every operation that stands for event words in a trace is those words performed one a step: the external
operations, the received bytes, the pseudo-operations and the clock edge (30_encoding.md section 5,
45_top_level_step.md section 3, which the spec derives). That a pseudo-operation is performed whole in one `exec` is
log entry 6, and a received-byte row outside its phase is log entry 7, the model's choice. -/
def Obligations.TraceWordsPerformTheOperation : Prop :=
  ∀ (i : Instr) (words : List EventWord) (s : State) (rest : List Stimulus), traceWords i = some words →
    stepTimes words.length
      { s with pending := words.map (fun w => .word w.toNat) ++ rest } =
    exec i { s with pending := rest }

/-- An event word played on the ports in a clock cycle of its own is its operation followed by a `TXPOLL`
(45_top_level_step.md section 1; decisions D18, D19). -/
def Obligations.WordOnThePortsAddsAPoll : Prop :=
  ∀ (i : Instr) (p : CycleInputs) (s : State), portsOf i = some p →
    ∃ t : State, exec i s = .next t ∧ exec (.cycle p) s = exec .txpoll t

/-- A reassembly in the same cycle as anything else, a wrap tick or a stop among them, has the last word: the counter
ends the cycle holding exactly the reassembled value and the transport is Running (45_top_level_step.md section 2;
decisions D3, D14, D18). -/
def Obligations.ReassemblyWinsTheCycle : Prop :=
  ∀ (s : State) (i : CycleInputs), i.rst = false → i.rxValid = true → s.AwaitsSlotSeven →
    ∃ t : State, exec (.cycle i) s = .next t ∧ t.transport = .running ∧
      IsAssembled t.tc s.slot[0] s.slot[1] s.slot[2] s.slot[3] s.slot[4] s.slot[5] s.slot[6]
        (dataNibble i.rxData)

/-- Without a reassembly, `stop` wins over the other control strobes of its cycle, and a `tick` of that cycle sees
Stopped: it grounds the line and advances nothing (45_top_level_step.md section 2; decisions D9, D18). -/
def Obligations.StopWinsTheCycle : Prop :=
  ∀ (s : State) (i : CycleInputs), i.rst = false → i.stop = true →
    ¬ (i.rxValid = true ∧ s.AwaitsSlotSeven) →
    ∃ t : State, exec (.cycle i) s = .next t ∧ t.transport = .stopped ∧ t.cursor = s.cursor ∧ t.tc = s.tc ∧
      (i.tick = true → t.level = .ground) ∧ (i.tick = false → t.level = s.level)

/-- An offered byte is held unchanged through every clock cycle in which the sink is not ready and there is no reset
(45_top_level_step.md section 3; decision D20). -/
def Obligations.OfferedByteIsHeld : Prop :=
  ∀ (s : State) (i : CycleInputs), i.rst = false → i.txReady = false → s.outputs.txValid = true →
    ∃ t : State, exec (.cycle i) s = .next t ∧ t.outputs.txValid = true ∧ t.outputs.txData = s.outputs.txData

/-- What each of the eight output ports shows in every state; port codes by the spec's decisions D8, D15, D20
(45_top_level_step.md section 1). -/
def Obligations.PortsShowTheRegisters : Prop :=
  ∀ s : State,
    s.outputs.txValid = s.txBusy ∧
    (s.txBusy = true → (expectedTransfer s.txLatch)[s.txIdx.toNat]? = some s.outputs.txData.toNat) ∧
    (s.txBusy = false → s.outputs.txData = 0) ∧
    s.outputs.level = (match s.level with | .ground => 0 | .low => 1 | .high => 2) ∧
    s.outputs.transportState =
      (if s.clockStarted = false then 0 else if s.clockPaused then 2 else 1) ∧
    s.outputs.tcHours = s.tc.hours ∧ s.outputs.tcMinutes = s.tc.minutes ∧
    s.outputs.tcSeconds = s.tc.seconds ∧ s.outputs.tcFrames = s.tc.frames

/-- The codes of 30_encoding.md section 4 (decisions D15, D20), as numbers: the port `transport_state` and the bit
`rx_phase`. -/
def Obligations.StateCodes : Prop :=
  TransportState.stopped.code.toNat = 0 ∧ TransportState.running.code.toNat = 1 ∧
  TransportState.paused.code.toNat = 2 ∧
  RxPhase.idle.code.toNat = 0 ∧ RxPhase.data.code.toNat = 1

/-- While no transfer is in progress nothing depends on `tx_idx` and `tx_latch`: whatever they hold, an operation has
the same effect on every other register, on both traces and on every port, and once a transfer starts they are equal
too (93_implementation_defined.md U6). -/
def Obligations.IdleTransferRegistersAreInvisible : Prop :=
  ∀ (i : Instr) (s t t' : State) (idx : BitVec 4) (latch : TimecodeValue), s.txBusy = false →
    exec i s = .next t → exec i { s with txIdx := idx, txLatch := latch } = .next t' →
    t'.outputs = t.outputs ∧ { t' with txIdx := t.txIdx, txLatch := t.txLatch } = t ∧
    (t.txBusy = true → t' = t)

/-! ### Encoding -/

/-- Decoding what a well-formed operation is written as, in the phase it applies in, gives it back, with every operand
at every value. -/
def Obligations.DecodeOfEncode : Prop :=
  ∀ (i : Instr) (p : RxPhase) (x : Stimulus), i.wellFormed = true → i.appliesIn p = true →
    encode i = some x → decodeStimulus p x = some i

/-- Whatever decodes is well-formed, applies in the phase, and encodes to what it was decoded from: no two stimuli
mean one operation. -/
def Obligations.EncodeOfDecode : Prop :=
  ∀ (i : Instr) (p : RxPhase) (x : Stimulus), decodeStimulus p x = some i →
    i.wellFormed = true ∧ i.appliesIn p = true ∧ encode i = some x

/-- Exactly these entries of an event trace are refused: the reserved words, that is kinds 9 to 15 and a non-zero
payload on a kind other than 2 (30_encoding.md section 1; decision D19), and, by the model's choice (log entry 10),
the numbers that do not fit the twelve bits, which R93 does not speak of. -/
def Obligations.ReservedWordsAreRefused : Prop :=
  ∀ w : Nat, decodeWord w = none ↔ (4096 ≤ w ∨ 9 ≤ w / 256 ∨ (w / 256 ≠ 2 ∧ w % 256 ≠ 0))

/-- The event words written out in 95_test_vectors.md, section 2.6 (V-E1 to V-E8), the refused ones among them,
decode as it says, and so do the serial bytes of V-Q1, V-Q4 and V-Q5 of its section 2.3, each in the phase it
arrives in. -/
def Obligations.SpecWordsDecode : Prop :=
  decodeWord 0x000 = some .reset ∧ decodeWord 0x100 = some .tick ∧ decodeWord 0x2F7 = some (.rx 0xF7) ∧
  decodeWord 0x200 = some (.rx 0x00) ∧ decodeWord 0x300 = some .start ∧ decodeWord 0x400 = some .stop ∧
  decodeWord 0x500 = some .pause ∧ decodeWord 0x600 = some .resume ∧ decodeWord 0x700 = some .txrdy ∧
  decodeWord 0x800 = some .txpoll ∧
  (∀ w ∈ [0x101, 0x3FF, 0x001, 0x900, 0xA12, 0xFFF], decodeWord w = none) ∧ decodeSerial .idle 0xF2 = .rxTag 2 ∧
  decodeSerial .idle 0xF1 = .rxTag 1 ∧ decodeSerial .data 0xAB = .rxData 0xA 0xB ∧
  (∀ b ∈ [0xF8, 0xFF, 0xEF, 0x00, 0x80], decodeSerial .idle b = .rxIgnore b)

/-- A trace that holds a reserved entry is refused as a whole, naming the first one and its position; a trace that
holds none is loaded into the machine as reset leaves it (30_encoding.md section 1; log entry 10). -/
def Obligations.LoaderRefusesReservedEntries : Prop :=
  ∀ (c : Config) (before after : List Stimulus) (x : Stimulus),
    (∀ y ∈ before, decodeStimulus .idle y ≠ none) →
    (decodeStimulus .idle x = none →
      State.load c (before ++ x :: after) = .refused (.reservedWord x before.length)) ∧
    State.load c before = .next { State.reset with config := c, pending := before }

/-! ### Invariants -/

/-- Every step keeps the invariant of the machine: legal flags, the level shown is the last one written, the serial
output is whole transfers, a machine without retransmission is silent, and nothing is sent before the first frame. -/
def Obligations.StepKeepsSound : Prop :=
  ∀ s t : State, s.Sound → step s = .next t → t.Sound

/-- The invariant holds after reset, whatever the configuration inputs and whatever is pending: the state from which
any loaded trace runs (log entries 1, 3). -/
def Obligations.ResetIsSound : Prop :=
  ∀ (c : Config) (p : List Stimulus), ({ State.reset with config := c, pending := p } : State).Sound

/-- The counter stays valid in every step that does not reassemble an invalid value (10_state.md section 2, which the
spec derives). -/
def Obligations.ValidCounterIsKept : Prop :=
  ∀ s t : State, s.tc.Valid s.config.fps →
    (∀ x rest b, s.pending = x :: rest → x.deliversByte = some b → s.LoadsValid b) →
    step s = .next t → t.tc.Valid t.config.fps
end

