-- ==== Sys2Proof/Laws/State.lean ====
section
/-! SUPPORT. One lemma per field per update of the state, each true by `rfl`, so that no later proof unfolds
a record update. -/

namespace Sys2Proof.Machine

/-! ### `driveLine` -/

@[simp] theorem State.driveLine_tc (l : Level) (s : State) : (s.driveLine l).tc = s.tc := rfl
@[simp] theorem State.driveLine_cursor (l : Level) (s : State) : (s.driveLine l).cursor = s.cursor := rfl
@[simp] theorem State.driveLine_level (l : Level) (s : State) : (s.driveLine l).level = l := rfl
@[simp] theorem State.driveLine_slot (l : Level) (s : State) : (s.driveLine l).slot = s.slot := rfl
@[simp] theorem State.driveLine_rxPhase (l : Level) (s : State) : (s.driveLine l).rxPhase = s.rxPhase := rfl
@[simp] theorem State.driveLine_rxSlot (l : Level) (s : State) : (s.driveLine l).rxSlot = s.rxSlot := rfl
@[simp] theorem State.driveLine_clockStarted (l : Level) (s : State) : (s.driveLine l).clockStarted = s.clockStarted := rfl
@[simp] theorem State.driveLine_clockPaused (l : Level) (s : State) : (s.driveLine l).clockPaused = s.clockPaused := rfl
@[simp] theorem State.driveLine_txPending (l : Level) (s : State) : (s.driveLine l).txPending = s.txPending := rfl
@[simp] theorem State.driveLine_txBusy (l : Level) (s : State) : (s.driveLine l).txBusy = s.txBusy := rfl
@[simp] theorem State.driveLine_txIdx (l : Level) (s : State) : (s.driveLine l).txIdx = s.txIdx := rfl
@[simp] theorem State.driveLine_txLatch (l : Level) (s : State) : (s.driveLine l).txLatch = s.txLatch := rfl
@[simp] theorem State.driveLine_lineTrace (l : Level) (s : State) : (s.driveLine l).lineTrace = s.lineTrace ++ [l] := rfl
@[simp] theorem State.driveLine_txTrace (l : Level) (s : State) : (s.driveLine l).txTrace = s.txTrace := rfl
@[simp] theorem State.driveLine_config (l : Level) (s : State) : (s.driveLine l).config = s.config := rfl
@[simp] theorem State.driveLine_pending (l : Level) (s : State) : (s.driveLine l).pending = s.pending := rfl

/-! ### `serialOut` -/

@[simp] theorem State.serialOut_tc (b : Byte) (s : State) : (s.serialOut b).tc = s.tc := rfl
@[simp] theorem State.serialOut_cursor (b : Byte) (s : State) : (s.serialOut b).cursor = s.cursor := rfl
@[simp] theorem State.serialOut_level (b : Byte) (s : State) : (s.serialOut b).level = s.level := rfl
@[simp] theorem State.serialOut_slot (b : Byte) (s : State) : (s.serialOut b).slot = s.slot := rfl
@[simp] theorem State.serialOut_rxPhase (b : Byte) (s : State) : (s.serialOut b).rxPhase = s.rxPhase := rfl
@[simp] theorem State.serialOut_rxSlot (b : Byte) (s : State) : (s.serialOut b).rxSlot = s.rxSlot := rfl
@[simp] theorem State.serialOut_clockStarted (b : Byte) (s : State) : (s.serialOut b).clockStarted = s.clockStarted := rfl
@[simp] theorem State.serialOut_clockPaused (b : Byte) (s : State) : (s.serialOut b).clockPaused = s.clockPaused := rfl
@[simp] theorem State.serialOut_txPending (b : Byte) (s : State) : (s.serialOut b).txPending = s.txPending := rfl
@[simp] theorem State.serialOut_txBusy (b : Byte) (s : State) : (s.serialOut b).txBusy = s.txBusy := rfl
@[simp] theorem State.serialOut_txIdx (b : Byte) (s : State) : (s.serialOut b).txIdx = s.txIdx := rfl
@[simp] theorem State.serialOut_txLatch (b : Byte) (s : State) : (s.serialOut b).txLatch = s.txLatch := rfl
@[simp] theorem State.serialOut_lineTrace (b : Byte) (s : State) : (s.serialOut b).lineTrace = s.lineTrace := rfl
@[simp] theorem State.serialOut_txTrace (b : Byte) (s : State) : (s.serialOut b).txTrace = s.txTrace ++ [b] := rfl
@[simp] theorem State.serialOut_config (b : Byte) (s : State) : (s.serialOut b).config = s.config := rfl
@[simp] theorem State.serialOut_pending (b : Byte) (s : State) : (s.serialOut b).pending = s.pending := rfl

/-! ### `dataSlot` -/

@[simp] theorem State.dataSlot_tc (b : Bool) (s : State) : (s.dataSlot b).tc = s.tc := rfl
@[simp] theorem State.dataSlot_cursor (b : Bool) (s : State) : (s.dataSlot b).cursor = s.cursor + 1 := rfl
@[simp] theorem State.dataSlot_level (b : Bool) (s : State) : (s.dataSlot b).level = levelOf b := rfl
@[simp] theorem State.dataSlot_slot (b : Bool) (s : State) : (s.dataSlot b).slot = s.slot := rfl
@[simp] theorem State.dataSlot_rxPhase (b : Bool) (s : State) : (s.dataSlot b).rxPhase = s.rxPhase := rfl
@[simp] theorem State.dataSlot_rxSlot (b : Bool) (s : State) : (s.dataSlot b).rxSlot = s.rxSlot := rfl
@[simp] theorem State.dataSlot_clockStarted (b : Bool) (s : State) : (s.dataSlot b).clockStarted = s.clockStarted := rfl
@[simp] theorem State.dataSlot_clockPaused (b : Bool) (s : State) : (s.dataSlot b).clockPaused = s.clockPaused := rfl
@[simp] theorem State.dataSlot_txPending (b : Bool) (s : State) : (s.dataSlot b).txPending = s.txPending := rfl
@[simp] theorem State.dataSlot_txBusy (b : Bool) (s : State) : (s.dataSlot b).txBusy = s.txBusy := rfl
@[simp] theorem State.dataSlot_txIdx (b : Bool) (s : State) : (s.dataSlot b).txIdx = s.txIdx := rfl
@[simp] theorem State.dataSlot_txLatch (b : Bool) (s : State) : (s.dataSlot b).txLatch = s.txLatch := rfl
@[simp] theorem State.dataSlot_lineTrace (b : Bool) (s : State) : (s.dataSlot b).lineTrace = s.lineTrace ++ [levelOf b] := rfl
@[simp] theorem State.dataSlot_txTrace (b : Bool) (s : State) : (s.dataSlot b).txTrace = s.txTrace := rfl
@[simp] theorem State.dataSlot_config (b : Bool) (s : State) : (s.dataSlot b).config = s.config := rfl
@[simp] theorem State.dataSlot_pending (b : Bool) (s : State) : (s.dataSlot b).pending = s.pending := rfl

/-! ### `acceptTag` -/

@[simp] theorem State.acceptTag_tc (k : BitVec 3) (s : State) : (s.acceptTag k).tc = s.tc := rfl
@[simp] theorem State.acceptTag_cursor (k : BitVec 3) (s : State) : (s.acceptTag k).cursor = s.cursor := rfl
@[simp] theorem State.acceptTag_level (k : BitVec 3) (s : State) : (s.acceptTag k).level = s.level := rfl
@[simp] theorem State.acceptTag_slot (k : BitVec 3) (s : State) : (s.acceptTag k).slot = s.slot := rfl
@[simp] theorem State.acceptTag_rxPhase (k : BitVec 3) (s : State) : (s.acceptTag k).rxPhase = .data := rfl
@[simp] theorem State.acceptTag_rxSlot (k : BitVec 3) (s : State) : (s.acceptTag k).rxSlot = k := rfl
@[simp] theorem State.acceptTag_clockStarted (k : BitVec 3) (s : State) : (s.acceptTag k).clockStarted = s.clockStarted := rfl
@[simp] theorem State.acceptTag_clockPaused (k : BitVec 3) (s : State) : (s.acceptTag k).clockPaused = s.clockPaused := rfl
@[simp] theorem State.acceptTag_txPending (k : BitVec 3) (s : State) : (s.acceptTag k).txPending = s.txPending := rfl
@[simp] theorem State.acceptTag_txBusy (k : BitVec 3) (s : State) : (s.acceptTag k).txBusy = s.txBusy := rfl
@[simp] theorem State.acceptTag_txIdx (k : BitVec 3) (s : State) : (s.acceptTag k).txIdx = s.txIdx := rfl
@[simp] theorem State.acceptTag_txLatch (k : BitVec 3) (s : State) : (s.acceptTag k).txLatch = s.txLatch := rfl
@[simp] theorem State.acceptTag_lineTrace (k : BitVec 3) (s : State) : (s.acceptTag k).lineTrace = s.lineTrace := rfl
@[simp] theorem State.acceptTag_txTrace (k : BitVec 3) (s : State) : (s.acceptTag k).txTrace = s.txTrace := rfl
@[simp] theorem State.acceptTag_config (k : BitVec 3) (s : State) : (s.acceptTag k).config = s.config := rfl
@[simp] theorem State.acceptTag_pending (k : BitVec 3) (s : State) : (s.acceptTag k).pending = s.pending := rfl

/-! ### `storeNibble` -/

@[simp] theorem State.storeNibble_tc (n : Nibble) (s : State) : (s.storeNibble n).tc = s.tc := rfl
@[simp] theorem State.storeNibble_cursor (n : Nibble) (s : State) : (s.storeNibble n).cursor = s.cursor := rfl
@[simp] theorem State.storeNibble_level (n : Nibble) (s : State) : (s.storeNibble n).level = s.level := rfl
@[simp] theorem State.storeNibble_slot (n : Nibble) (s : State) : (s.storeNibble n).slot = writeSlot s.slot s.rxSlot n := rfl
@[simp] theorem State.storeNibble_rxPhase (n : Nibble) (s : State) : (s.storeNibble n).rxPhase = .idle := rfl
@[simp] theorem State.storeNibble_rxSlot (n : Nibble) (s : State) : (s.storeNibble n).rxSlot = s.rxSlot := rfl
@[simp] theorem State.storeNibble_clockStarted (n : Nibble) (s : State) : (s.storeNibble n).clockStarted = s.clockStarted := rfl
@[simp] theorem State.storeNibble_clockPaused (n : Nibble) (s : State) : (s.storeNibble n).clockPaused = s.clockPaused := rfl
@[simp] theorem State.storeNibble_txPending (n : Nibble) (s : State) : (s.storeNibble n).txPending = s.txPending := rfl
@[simp] theorem State.storeNibble_txBusy (n : Nibble) (s : State) : (s.storeNibble n).txBusy = s.txBusy := rfl
@[simp] theorem State.storeNibble_txIdx (n : Nibble) (s : State) : (s.storeNibble n).txIdx = s.txIdx := rfl
@[simp] theorem State.storeNibble_txLatch (n : Nibble) (s : State) : (s.storeNibble n).txLatch = s.txLatch := rfl
@[simp] theorem State.storeNibble_lineTrace (n : Nibble) (s : State) : (s.storeNibble n).lineTrace = s.lineTrace := rfl
@[simp] theorem State.storeNibble_txTrace (n : Nibble) (s : State) : (s.storeNibble n).txTrace = s.txTrace := rfl
@[simp] theorem State.storeNibble_config (n : Nibble) (s : State) : (s.storeNibble n).config = s.config := rfl
@[simp] theorem State.storeNibble_pending (n : Nibble) (s : State) : (s.storeNibble n).pending = s.pending := rfl

/-! ### `incTc` -/

@[simp] theorem State.incTc_tc (s : State) : (s.incTc).tc = s.tc.inc s.config.fps.perSecond := rfl
@[simp] theorem State.incTc_cursor (s : State) : (s.incTc).cursor = s.cursor := rfl
@[simp] theorem State.incTc_level (s : State) : (s.incTc).level = s.level := rfl
@[simp] theorem State.incTc_slot (s : State) : (s.incTc).slot = s.slot := rfl
@[simp] theorem State.incTc_rxPhase (s : State) : (s.incTc).rxPhase = s.rxPhase := rfl
@[simp] theorem State.incTc_rxSlot (s : State) : (s.incTc).rxSlot = s.rxSlot := rfl
@[simp] theorem State.incTc_clockStarted (s : State) : (s.incTc).clockStarted = s.clockStarted := rfl
@[simp] theorem State.incTc_clockPaused (s : State) : (s.incTc).clockPaused = s.clockPaused := rfl
@[simp] theorem State.incTc_txPending (s : State) : (s.incTc).txPending = s.txPending := rfl
@[simp] theorem State.incTc_txBusy (s : State) : (s.incTc).txBusy = s.txBusy := rfl
@[simp] theorem State.incTc_txIdx (s : State) : (s.incTc).txIdx = s.txIdx := rfl
@[simp] theorem State.incTc_txLatch (s : State) : (s.incTc).txLatch = s.txLatch := rfl
@[simp] theorem State.incTc_lineTrace (s : State) : (s.incTc).lineTrace = s.lineTrace := rfl
@[simp] theorem State.incTc_txTrace (s : State) : (s.incTc).txTrace = s.txTrace := rfl
@[simp] theorem State.incTc_config (s : State) : (s.incTc).config = s.config := rfl
@[simp] theorem State.incTc_pending (s : State) : (s.incTc).pending = s.pending := rfl

/-! ### `setFrom` -/

@[simp] theorem State.setFrom_tc (v : TimecodeValue) (s : State) : (s.setFrom v).tc = v := rfl
@[simp] theorem State.setFrom_cursor (v : TimecodeValue) (s : State) : (s.setFrom v).cursor = s.cursor := rfl
@[simp] theorem State.setFrom_level (v : TimecodeValue) (s : State) : (s.setFrom v).level = s.level := rfl
@[simp] theorem State.setFrom_slot (v : TimecodeValue) (s : State) : (s.setFrom v).slot = s.slot := rfl
@[simp] theorem State.setFrom_rxPhase (v : TimecodeValue) (s : State) : (s.setFrom v).rxPhase = s.rxPhase := rfl
@[simp] theorem State.setFrom_rxSlot (v : TimecodeValue) (s : State) : (s.setFrom v).rxSlot = s.rxSlot := rfl
@[simp] theorem State.setFrom_clockStarted (v : TimecodeValue) (s : State) : (s.setFrom v).clockStarted = s.clockStarted := rfl
@[simp] theorem State.setFrom_clockPaused (v : TimecodeValue) (s : State) : (s.setFrom v).clockPaused = s.clockPaused := rfl
@[simp] theorem State.setFrom_txPending (v : TimecodeValue) (s : State) : (s.setFrom v).txPending = s.txPending := rfl
@[simp] theorem State.setFrom_txBusy (v : TimecodeValue) (s : State) : (s.setFrom v).txBusy = s.txBusy := rfl
@[simp] theorem State.setFrom_txIdx (v : TimecodeValue) (s : State) : (s.setFrom v).txIdx = s.txIdx := rfl
@[simp] theorem State.setFrom_txLatch (v : TimecodeValue) (s : State) : (s.setFrom v).txLatch = s.txLatch := rfl
@[simp] theorem State.setFrom_lineTrace (v : TimecodeValue) (s : State) : (s.setFrom v).lineTrace = s.lineTrace := rfl
@[simp] theorem State.setFrom_txTrace (v : TimecodeValue) (s : State) : (s.setFrom v).txTrace = s.txTrace := rfl
@[simp] theorem State.setFrom_config (v : TimecodeValue) (s : State) : (s.setFrom v).config = s.config := rfl
@[simp] theorem State.setFrom_pending (v : TimecodeValue) (s : State) : (s.setFrom v).pending = s.pending := rfl

/-! ### `doStart` -/

@[simp] theorem State.doStart_tc (s : State) : (s.doStart).tc = s.tc := rfl
@[simp] theorem State.doStart_cursor (s : State) : (s.doStart).cursor = s.cursor := rfl
@[simp] theorem State.doStart_level (s : State) : (s.doStart).level = s.level := rfl
@[simp] theorem State.doStart_slot (s : State) : (s.doStart).slot = s.slot := rfl
@[simp] theorem State.doStart_rxPhase (s : State) : (s.doStart).rxPhase = s.rxPhase := rfl
@[simp] theorem State.doStart_rxSlot (s : State) : (s.doStart).rxSlot = s.rxSlot := rfl
@[simp] theorem State.doStart_clockStarted (s : State) : (s.doStart).clockStarted = true := rfl
@[simp] theorem State.doStart_clockPaused (s : State) : (s.doStart).clockPaused = false := rfl
@[simp] theorem State.doStart_txPending (s : State) : (s.doStart).txPending = s.txPending := rfl
@[simp] theorem State.doStart_txBusy (s : State) : (s.doStart).txBusy = s.txBusy := rfl
@[simp] theorem State.doStart_txIdx (s : State) : (s.doStart).txIdx = s.txIdx := rfl
@[simp] theorem State.doStart_txLatch (s : State) : (s.doStart).txLatch = s.txLatch := rfl
@[simp] theorem State.doStart_lineTrace (s : State) : (s.doStart).lineTrace = s.lineTrace := rfl
@[simp] theorem State.doStart_txTrace (s : State) : (s.doStart).txTrace = s.txTrace := rfl
@[simp] theorem State.doStart_config (s : State) : (s.doStart).config = s.config := rfl
@[simp] theorem State.doStart_pending (s : State) : (s.doStart).pending = s.pending := rfl

/-! ### `doStop` -/

@[simp] theorem State.doStop_tc (s : State) : (s.doStop).tc = s.tc := rfl
@[simp] theorem State.doStop_cursor (s : State) : (s.doStop).cursor = s.cursor := rfl
@[simp] theorem State.doStop_level (s : State) : (s.doStop).level = s.level := rfl
@[simp] theorem State.doStop_slot (s : State) : (s.doStop).slot = s.slot := rfl
@[simp] theorem State.doStop_rxPhase (s : State) : (s.doStop).rxPhase = s.rxPhase := rfl
@[simp] theorem State.doStop_rxSlot (s : State) : (s.doStop).rxSlot = s.rxSlot := rfl
@[simp] theorem State.doStop_clockStarted (s : State) : (s.doStop).clockStarted = false := rfl
@[simp] theorem State.doStop_clockPaused (s : State) : (s.doStop).clockPaused = false := rfl
@[simp] theorem State.doStop_txPending (s : State) : (s.doStop).txPending = s.txPending := rfl
@[simp] theorem State.doStop_txBusy (s : State) : (s.doStop).txBusy = s.txBusy := rfl
@[simp] theorem State.doStop_txIdx (s : State) : (s.doStop).txIdx = s.txIdx := rfl
@[simp] theorem State.doStop_txLatch (s : State) : (s.doStop).txLatch = s.txLatch := rfl
@[simp] theorem State.doStop_lineTrace (s : State) : (s.doStop).lineTrace = s.lineTrace := rfl
@[simp] theorem State.doStop_txTrace (s : State) : (s.doStop).txTrace = s.txTrace := rfl
@[simp] theorem State.doStop_config (s : State) : (s.doStop).config = s.config := rfl
@[simp] theorem State.doStop_pending (s : State) : (s.doStop).pending = s.pending := rfl

/-! ### `markFrameComplete` -/

@[simp] theorem State.markFrameComplete_tc (s : State) : (s.markFrameComplete).tc = s.tc := rfl
@[simp] theorem State.markFrameComplete_cursor (s : State) : (s.markFrameComplete).cursor = s.cursor := rfl
@[simp] theorem State.markFrameComplete_level (s : State) : (s.markFrameComplete).level = s.level := rfl
@[simp] theorem State.markFrameComplete_slot (s : State) : (s.markFrameComplete).slot = s.slot := rfl
@[simp] theorem State.markFrameComplete_rxPhase (s : State) : (s.markFrameComplete).rxPhase = s.rxPhase := rfl
@[simp] theorem State.markFrameComplete_rxSlot (s : State) : (s.markFrameComplete).rxSlot = s.rxSlot := rfl
@[simp] theorem State.markFrameComplete_clockStarted (s : State) : (s.markFrameComplete).clockStarted = s.clockStarted := rfl
@[simp] theorem State.markFrameComplete_clockPaused (s : State) : (s.markFrameComplete).clockPaused = s.clockPaused := rfl
@[simp] theorem State.markFrameComplete_txPending (s : State) : (s.markFrameComplete).txPending = true := rfl
@[simp] theorem State.markFrameComplete_txBusy (s : State) : (s.markFrameComplete).txBusy = s.txBusy := rfl
@[simp] theorem State.markFrameComplete_txIdx (s : State) : (s.markFrameComplete).txIdx = s.txIdx := rfl
@[simp] theorem State.markFrameComplete_txLatch (s : State) : (s.markFrameComplete).txLatch = s.txLatch := rfl
@[simp] theorem State.markFrameComplete_lineTrace (s : State) : (s.markFrameComplete).lineTrace = s.lineTrace := rfl
@[simp] theorem State.markFrameComplete_txTrace (s : State) : (s.markFrameComplete).txTrace = s.txTrace := rfl
@[simp] theorem State.markFrameComplete_config (s : State) : (s.markFrameComplete).config = s.config := rfl
@[simp] theorem State.markFrameComplete_pending (s : State) : (s.markFrameComplete).pending = s.pending := rfl

/-! ### `wrapFrame` -/

@[simp] theorem State.wrapFrame_tc (s : State) : (s.wrapFrame).tc = s.tc.inc s.config.fps.perSecond := rfl
@[simp] theorem State.wrapFrame_cursor (s : State) : (s.wrapFrame).cursor = 0 := rfl
@[simp] theorem State.wrapFrame_level (s : State) : (s.wrapFrame).level = .ground := rfl
@[simp] theorem State.wrapFrame_slot (s : State) : (s.wrapFrame).slot = s.slot := rfl
@[simp] theorem State.wrapFrame_rxPhase (s : State) : (s.wrapFrame).rxPhase = s.rxPhase := rfl
@[simp] theorem State.wrapFrame_rxSlot (s : State) : (s.wrapFrame).rxSlot = s.rxSlot := rfl
@[simp] theorem State.wrapFrame_clockStarted (s : State) : (s.wrapFrame).clockStarted = s.clockStarted := rfl
@[simp] theorem State.wrapFrame_clockPaused (s : State) : (s.wrapFrame).clockPaused = s.clockPaused := rfl
@[simp] theorem State.wrapFrame_txPending (s : State) : (s.wrapFrame).txPending = true := rfl
@[simp] theorem State.wrapFrame_txBusy (s : State) : (s.wrapFrame).txBusy = s.txBusy := rfl
@[simp] theorem State.wrapFrame_txIdx (s : State) : (s.wrapFrame).txIdx = s.txIdx := rfl
@[simp] theorem State.wrapFrame_txLatch (s : State) : (s.wrapFrame).txLatch = s.txLatch := rfl
@[simp] theorem State.wrapFrame_lineTrace (s : State) : (s.wrapFrame).lineTrace = s.lineTrace ++ [.ground] := rfl
@[simp] theorem State.wrapFrame_txTrace (s : State) : (s.wrapFrame).txTrace = s.txTrace := rfl
@[simp] theorem State.wrapFrame_config (s : State) : (s.wrapFrame).config = s.config := rfl
@[simp] theorem State.wrapFrame_pending (s : State) : (s.wrapFrame).pending = s.pending := rfl

/-! ### `reassemble` -/

@[simp] theorem State.reassemble_tc (s : State) : (s.reassemble).tc = assemble s.slot := rfl
@[simp] theorem State.reassemble_cursor (s : State) : (s.reassemble).cursor = s.cursor := rfl
@[simp] theorem State.reassemble_level (s : State) : (s.reassemble).level = s.level := rfl
@[simp] theorem State.reassemble_slot (s : State) : (s.reassemble).slot = s.slot := rfl
@[simp] theorem State.reassemble_rxPhase (s : State) : (s.reassemble).rxPhase = s.rxPhase := rfl
@[simp] theorem State.reassemble_rxSlot (s : State) : (s.reassemble).rxSlot = s.rxSlot := rfl
@[simp] theorem State.reassemble_clockStarted (s : State) : (s.reassemble).clockStarted = true := rfl
@[simp] theorem State.reassemble_clockPaused (s : State) : (s.reassemble).clockPaused = false := rfl
@[simp] theorem State.reassemble_txPending (s : State) : (s.reassemble).txPending = s.txPending := rfl
@[simp] theorem State.reassemble_txBusy (s : State) : (s.reassemble).txBusy = s.txBusy := rfl
@[simp] theorem State.reassemble_txIdx (s : State) : (s.reassemble).txIdx = s.txIdx := rfl
@[simp] theorem State.reassemble_txLatch (s : State) : (s.reassemble).txLatch = s.txLatch := rfl
@[simp] theorem State.reassemble_lineTrace (s : State) : (s.reassemble).lineTrace = s.lineTrace := rfl
@[simp] theorem State.reassemble_txTrace (s : State) : (s.reassemble).txTrace = s.txTrace := rfl
@[simp] theorem State.reassemble_config (s : State) : (s.reassemble).config = s.config := rfl
@[simp] theorem State.reassemble_pending (s : State) : (s.reassemble).pending = s.pending := rfl

/-! ### `startTransfer` -/

@[simp] theorem State.startTransfer_tc (s : State) : (s.startTransfer).tc = s.tc := rfl
@[simp] theorem State.startTransfer_cursor (s : State) : (s.startTransfer).cursor = s.cursor := rfl
@[simp] theorem State.startTransfer_level (s : State) : (s.startTransfer).level = s.level := rfl
@[simp] theorem State.startTransfer_slot (s : State) : (s.startTransfer).slot = s.slot := rfl
@[simp] theorem State.startTransfer_rxPhase (s : State) : (s.startTransfer).rxPhase = s.rxPhase := rfl
@[simp] theorem State.startTransfer_rxSlot (s : State) : (s.startTransfer).rxSlot = s.rxSlot := rfl
@[simp] theorem State.startTransfer_clockStarted (s : State) : (s.startTransfer).clockStarted = s.clockStarted := rfl
@[simp] theorem State.startTransfer_clockPaused (s : State) : (s.startTransfer).clockPaused = s.clockPaused := rfl
@[simp] theorem State.startTransfer_txPending (s : State) : (s.startTransfer).txPending = s.txPending := rfl
@[simp] theorem State.startTransfer_txBusy (s : State) : (s.startTransfer).txBusy = true := rfl
@[simp] theorem State.startTransfer_txIdx (s : State) : (s.startTransfer).txIdx = 0 := rfl
@[simp] theorem State.startTransfer_txLatch (s : State) : (s.startTransfer).txLatch = s.tc := rfl
@[simp] theorem State.startTransfer_lineTrace (s : State) : (s.startTransfer).lineTrace = s.lineTrace := rfl
@[simp] theorem State.startTransfer_txTrace (s : State) : (s.startTransfer).txTrace = s.txTrace := rfl
@[simp] theorem State.startTransfer_config (s : State) : (s.startTransfer).config = s.config := rfl
@[simp] theorem State.startTransfer_pending (s : State) : (s.startTransfer).pending = s.pending := rfl

/-! ### `doReset` -/

@[simp] theorem State.doReset_tc (s : State) : (s.doReset).tc = State.reset.tc := rfl
@[simp] theorem State.doReset_cursor (s : State) : (s.doReset).cursor = State.reset.cursor := rfl
@[simp] theorem State.doReset_level (s : State) : (s.doReset).level = State.reset.level := rfl
@[simp] theorem State.doReset_slot (s : State) : (s.doReset).slot = State.reset.slot := rfl
@[simp] theorem State.doReset_rxPhase (s : State) : (s.doReset).rxPhase = State.reset.rxPhase := rfl
@[simp] theorem State.doReset_rxSlot (s : State) : (s.doReset).rxSlot = State.reset.rxSlot := rfl
@[simp] theorem State.doReset_clockStarted (s : State) : (s.doReset).clockStarted = State.reset.clockStarted := rfl
@[simp] theorem State.doReset_clockPaused (s : State) : (s.doReset).clockPaused = State.reset.clockPaused := rfl
@[simp] theorem State.doReset_txPending (s : State) : (s.doReset).txPending = State.reset.txPending := rfl
@[simp] theorem State.doReset_txBusy (s : State) : (s.doReset).txBusy = State.reset.txBusy := rfl
@[simp] theorem State.doReset_txIdx (s : State) : (s.doReset).txIdx = State.reset.txIdx := rfl
@[simp] theorem State.doReset_txLatch (s : State) : (s.doReset).txLatch = State.reset.txLatch := rfl
@[simp] theorem State.doReset_lineTrace (s : State) : (s.doReset).lineTrace = State.reset.lineTrace := rfl
@[simp] theorem State.doReset_txTrace (s : State) : (s.doReset).txTrace = State.reset.txTrace := rfl
@[simp] theorem State.doReset_config (s : State) : (s.doReset).config = s.config := rfl
@[simp] theorem State.doReset_pending (s : State) : (s.doReset).pending = s.pending := rfl

end Sys2Proof.Machine
end

