-- ==== Sys2Proof/Laws/Operands.lean ====
section
/-! SUPPORT. What the lookups give, in arithmetic: the level of a line slot, the bytes of a transfer, the
value assembled from the slots, and the classification of a received byte. -/

namespace Sys2Proof.Machine

theorem levelOf_getLsbD {w : Nat} (x : BitVec w) (i : Nat) :
    levelOf (x.getLsbD i) = bitLevel x.toNat i := by
  simp only [levelOf, bitLevel, BitVec.getLsbD, Nat.testBit_eq_decide_div_mod_eq, decide_eq_true_eq]

theorem levelOf_bitAt (v : TimecodeValue) {c : Nat} (h : c < 79) :
    levelOf (bitAt c v) = expectedLevel v c := by
  unfold bitAt expectedLevel framesBit secondsBit minutesBit hoursBit
  split_ifs <;> simp only [levelOf_getLsbD]

theorem expectedLevel_ground (v : TimecodeValue) : expectedLevel v 79 = .ground := by
  simp [expectedLevel]

theorem expectedLevel_ne_ground (v : TimecodeValue) {c : Nat} (h : c < 79) :
    expectedLevel v c ≠ .ground := by
  rw [← levelOf_bitAt v h]
  cases bitAt c v <;> simp [levelOf]

theorem isTagByte_iff (b : Byte) : isTagByte b = true ↔ 0xF0 ≤ b.toNat ∧ b.toNat < 0xF8 := by
  revert b; decide

theorem tagByte_toNat (k : BitVec 3) : (tagByte k).toNat = 0xF0 + k.toNat := by
  revert k; decide

theorem tagSlot_tagByte (k : BitVec 3) : tagSlot (tagByte k) = k := by
  revert k; decide

theorem isTagByte_tagByte (k : BitVec 3) : isTagByte (tagByte k) = true := by
  revert k; decide

theorem tagByte_tagSlot {b : Byte} (h : isTagByte b = true) : tagByte (tagSlot b) = b := by
  revert b; decide

theorem dataByte_toNat (u n : Nibble) : (dataByte u n).toNat = 16 * u.toNat + n.toNat := by
  revert u n; decide

theorem dataNibble_dataByte (u n : Nibble) : dataNibble (dataByte u n) = n := by
  revert u n; decide

theorem unusedNibble_dataByte (u n : Nibble) : unusedNibble (dataByte u n) = u := by
  revert u n; decide

theorem dataByte_eta (b : Byte) : dataByte (unusedNibble b) (dataNibble b) = b := by
  revert b; decide

theorem joinFive_toNat (hi lo : Nibble) : (joinFive hi lo).toNat = 16 * (hi.toNat % 2) + lo.toNat := by
  revert hi lo; decide

theorem joinSix_toNat (hi lo : Nibble) : (joinSix hi lo).toNat = 16 * (hi.toNat % 4) + lo.toNat := by
  revert hi lo; decide

/-- The machine's assembly is the arithmetic of 30_encoding.md R100. -/
theorem assemble_isAssembled (x : Vector Nibble 8) :
    IsAssembled (assemble x) x[0] x[1] x[2] x[3] x[4] x[5] x[6] x[7] := by
  refine ⟨joinFive_toNat _ _, joinSix_toNat _ _, joinSix_toNat _ _, joinFive_toNat _ _⟩

/-- A value is fixed by the slots it is assembled from. -/
theorem isAssembled_unique {v w : TimecodeValue} {a b c d e f g h : Nibble}
    (hv : IsAssembled v a b c d e f g h) (hw : IsAssembled w a b c d e f g h) : v = w := by
  obtain ⟨h1, h2, h3, h4⟩ := hv
  obtain ⟨g1, g2, g3, g4⟩ := hw
  cases v; cases w
  simp only [TimecodeValue.mk.injEq, ← BitVec.toNat_inj]
  simp only at h1 h2 h3 h4 g1 g2 g3 g4
  omega

theorem length_transferBytes (v : TimecodeValue) : (transferBytes v).length = 16 := by
  simp [transferBytes]

/-- Byte `i` of a transfer. -/
theorem getElem_transferBytes (v : TimecodeValue) (i : BitVec 4) :
    (transferBytes v)[i.toNat]? = some (txByte i v) := by
  have := i.isLt
  simp [transferBytes, this]

end Sys2Proof.Machine
end

