-- ==== Sys2Proof/Laws/Operations.lean ====
section
/-! SUPPORT. One spec lemma per shared operation: everything it can do, for the provers to cite instead of
unfolding it. -/

namespace Sys2Proof.Machine

/-! ### Transport -/

theorem isRunning_iff (s : State) : s.isRunning = true ↔ s.transport = .running := by
  simp [State.isRunning]

theorem transport_running_iff (s : State) :
    s.transport = .running ↔ s.clockStarted = true ∧ s.clockPaused = false := by
  unfold State.transport transportOf
  cases s.clockStarted <;> cases s.clockPaused <;> simp

theorem transport_stopped_iff (s : State) : s.transport = .stopped ↔ s.clockStarted = false := by
  unfold State.transport transportOf
  cases s.clockStarted <;> cases s.clockPaused <;> simp

theorem doPause_cases (s : State) :
    (s.transport = .running ∧ s.doPause = { s with clockPaused := true }) ∨
    (s.transport ≠ .running ∧ s.doPause = s) := by
  rw [ne_eq, transport_running_iff]
  unfold State.doPause
  cases h : s.clockStarted <;> cases h' : s.clockPaused <;> simp

theorem doResume_cases (s : State) :
    (s.clockStarted = true ∧ s.clockPaused = true ∧ s.doResume = { s with clockPaused := false }) ∨
    (¬ (s.clockStarted = true ∧ s.clockPaused = true) ∧ s.doResume = s) := by
  unfold State.doResume
  cases h : s.clockStarted <;> cases h' : s.clockPaused <;> simp

/-! ### The counter -/

/-- The four fields after `INC`, from every value (40_timecode_counter.md R130, R133). -/
theorem inc_toNat (r : FrameRate) (v : TimecodeValue) :
    (v.inc r.perSecond).frames.toNat =
      (if v.frames.toNat + 1 ≥ r.perSecond then 0 else v.frames.toNat + 1) ∧
    (v.inc r.perSecond).seconds.toNat =
      (if v.frames.toNat + 1 ≥ r.perSecond then
        (if v.seconds.toNat + 1 ≥ 60 then 0 else v.seconds.toNat + 1) else v.seconds.toNat) ∧
    (v.inc r.perSecond).minutes.toNat =
      (if v.frames.toNat + 1 ≥ r.perSecond ∧ v.seconds.toNat + 1 ≥ 60 then
        (if v.minutes.toNat + 1 ≥ 60 then 0 else v.minutes.toNat + 1) else v.minutes.toNat) ∧
    (v.inc r.perSecond).hours.toNat =
      (if v.frames.toNat + 1 ≥ r.perSecond ∧ v.seconds.toNat + 1 ≥ 60 ∧ v.minutes.toNat + 1 ≥ 60 then
        (if v.hours.toNat + 1 ≥ 24 then 0 else v.hours.toNat + 1) else v.hours.toNat) := by
  have hr : r.perSecond ≤ 30 := by cases r <;> decide
  unfold TimecodeValue.inc
  by_cases hf : v.frames.toNat + 1 ≥ r.perSecond
  · by_cases hs : v.seconds.toNat + 1 ≥ 60
    · by_cases hm : v.minutes.toNat + 1 ≥ 60
      · by_cases hh : v.hours.toNat + 1 ≥ 24
        · simp [hf, hs, hm, hh]
        · simp [hf, hs, hm, hh, BitVec.toNat_add]; omega
      · simp [hf, hs, hm, BitVec.toNat_add]; omega
    · simp [hf, hs, BitVec.toNat_add]; omega
  · simp [hf, BitVec.toNat_add]; omega

/-! ### `TICK` -/

theorem doTick_data {s : State} {c : Fin 80} (hr : s.transport = .running)
    (hc : c.val = s.cursor.val + 1) :
    s.doTick = { s with level := expectedLevel s.tc s.cursor.val
                        lineTrace := s.lineTrace ++ [expectedLevel s.tc s.cursor.val]
                        cursor := c } := by
  have hlt : s.cursor.val < 79 := by omega
  have hne : ¬ s.cursor.val = 79 := by omega
  have hc' : s.cursor + 1 = c := by
    apply Fin.ext
    rw [Fin.val_add, hc]
    exact Nat.mod_eq_of_lt (by omega)
  simp [State.doTick, (isRunning_iff s).2 hr, hne, State.dataSlot, State.driveLine,
    levelOf_bitAt s.tc hlt, hc']

theorem doTick_wrap {s : State} (hr : s.transport = .running) (hc : s.cursor.val = 79) :
    s.doTick = { s with level := .ground, lineTrace := s.lineTrace ++ [.ground], cursor := 0
                        tc := s.tc.inc s.config.fps.perSecond, txPending := true } := by
  simp [State.doTick, (isRunning_iff s).2 hr, hc, State.wrapFrame, State.driveLine, State.incTc,
    State.markFrameComplete]

theorem doTick_notRunning {s : State} (hr : s.transport ≠ .running) :
    s.doTick = { s with level := .ground, lineTrace := s.lineTrace ++ [.ground] } := by
  have h : s.isRunning = false := by
    rw [← Bool.not_eq_true, isRunning_iff]; exact hr
  simp [State.doTick, h, State.driveLine]

/-- Everything a tick can do. -/
theorem doTick_cases (s : State) :
    (s.transport ≠ .running ∧
      s.doTick = { s with level := .ground, lineTrace := s.lineTrace ++ [.ground] }) ∨
    (s.transport = .running ∧ s.cursor.val = 79 ∧
      s.doTick = { s with level := .ground, lineTrace := s.lineTrace ++ [.ground], cursor := 0
                          tc := s.tc.inc s.config.fps.perSecond, txPending := true }) ∨
    (s.transport = .running ∧ ∃ c : Fin 80, c.val = s.cursor.val + 1 ∧
      s.doTick = { s with level := expectedLevel s.tc s.cursor.val
                          lineTrace := s.lineTrace ++ [expectedLevel s.tc s.cursor.val]
                          cursor := c }) := by
  by_cases hr : s.transport = .running
  · by_cases hc : s.cursor.val = 79
    · exact .inr (.inl ⟨hr, hc, doTick_wrap hr hc⟩)
    · have hlt : s.cursor.val + 1 < 80 := by have := s.cursor.isLt; omega
      exact .inr (.inr ⟨hr, ⟨s.cursor.val + 1, hlt⟩, rfl, doTick_data hr rfl⟩)
  · exact .inl ⟨hr, doTick_notRunning hr⟩

/-- `n` ticks that do not reach the wrap. -/
theorem iterate_doTick_data (n : Nat) : ∀ (s : State) (c : Fin 80), s.transport = .running →
    c.val = s.cursor.val + (n + 1) →
    State.doTick^[n + 1] s =
      { s with level := expectedLevel s.tc (s.cursor.val + n)
               lineTrace := s.lineTrace ++ (List.range' s.cursor.val (n + 1)).map (expectedLevel s.tc)
               cursor := c } := by
  induction n with
  | zero =>
    intro s c hr hc
    simpa [List.range'] using doTick_data hr hc
  | succ n ih =>
    intro s c hr hc
    have hlt : s.cursor.val + 1 < 80 := by have := c.isLt; omega
    rw [Function.iterate_succ_apply, doTick_data (c := ⟨s.cursor.val + 1, hlt⟩) hr rfl]
    refine (ih _ c (by exact hr) (by simp only [hc]; omega)).trans ?_
    simp [List.range'_succ, Nat.add_comm, Nat.add_left_comm]

/-- `n` ticks while not Running. -/
theorem iterate_doTick_notRunning (n : Nat) : ∀ s : State, s.transport ≠ .running →
    State.doTick^[n] s =
      { s with level := if n = 0 then s.level else .ground
               lineTrace := s.lineTrace ++ List.replicate n .ground } := by
  induction n with
  | zero => intro s _; simp
  | succ n ih =>
    intro s hr
    rw [Function.iterate_succ_apply, doTick_notRunning hr]
    refine (ih _ (by exact hr)).trans ?_
    simp [List.replicate_succ]

/-! ### `RX` -/

theorem doRx_tag {s : State} {b : Byte} (hp : s.rxPhase = .idle) (hb : isTagByte b = true) :
    s.doRx b = { s with rxSlot := tagSlot b, rxPhase := .data } := by
  simp [State.doRx, hp, hb, State.acceptTag]

theorem doRx_ignored {s : State} {b : Byte} (hp : s.rxPhase = .idle) (hb : isTagByte b = false) :
    s.doRx b = s := by
  simp [State.doRx, hp, hb]

theorem doRx_data {s : State} {b : Byte} (hp : s.rxPhase = .data) (hk : s.rxSlot ≠ 7) :
    s.doRx b = { s with slot := writeSlot s.slot s.rxSlot (dataNibble b), rxPhase := .idle } := by
  unfold State.doRx State.receiveData
  rw [hp]
  exact if_neg hk

theorem doRx_seven {s : State} {b : Byte} (hp : s.rxPhase = .data) (hk : s.rxSlot = 7) :
    s.doRx b =
      { s with slot := writeSlot s.slot 7 (dataNibble b), rxPhase := .idle
               tc := assemble (writeSlot s.slot 7 (dataNibble b))
               clockStarted := true, clockPaused := false } := by
  simp [State.doRx, hp, State.receiveData, hk, State.storeNibble, State.reassemble, State.setFrom,
    State.doStart]

/-- Everything a received byte can do. -/
theorem doRx_cases (s : State) (b : Byte) :
    (s.rxPhase = .idle ∧ isTagByte b = true ∧
      s.doRx b = { s with rxSlot := tagSlot b, rxPhase := .data }) ∨
    (s.rxPhase = .idle ∧ isTagByte b = false ∧ s.doRx b = s) ∨
    (s.rxPhase = .data ∧ s.rxSlot ≠ 7 ∧
      s.doRx b = { s with slot := writeSlot s.slot s.rxSlot (dataNibble b), rxPhase := .idle }) ∨
    (s.rxPhase = .data ∧ s.rxSlot = 7 ∧
      s.doRx b =
        { s with slot := writeSlot s.slot 7 (dataNibble b), rxPhase := .idle
                 tc := assemble (writeSlot s.slot 7 (dataNibble b))
                 clockStarted := true, clockPaused := false }) := by
  cases hp : s.rxPhase with
  | idle =>
    cases hb : isTagByte b with
    | true => exact .inl ⟨rfl, rfl, doRx_tag hp hb⟩
    | false => exact .inr (.inl ⟨rfl, rfl, doRx_ignored hp hb⟩)
  | data =>
    by_cases hk : s.rxSlot = 7
    · exact .inr (.inr (.inr ⟨rfl, hk, doRx_seven hp hk⟩))
    · exact .inr (.inr (.inl ⟨rfl, hk, doRx_data hp hk⟩))

/-- One whole message where a tag is expected, slot 7 apart. -/
theorem doQf_other {s : State} {k : BitVec 3} (n : Nibble) (hp : s.rxPhase = .idle) (hk : k ≠ 7) :
    s.doQf k n = { s with slot := writeSlot s.slot k n, rxSlot := k } := by
  unfold State.doQf
  rw [doRx_tag hp (isTagByte_tagByte k), tagSlot_tagByte, doRx_data rfl hk, dataNibble_dataByte]
  simp [hp]

/-- One whole message of slot 7 where a tag is expected. -/
theorem doQf_seven {s : State} (n : Nibble) (hp : s.rxPhase = .idle) :
    s.doQf 7 n =
      { s with slot := writeSlot s.slot 7 n, rxSlot := 7, tc := assemble (writeSlot s.slot 7 n)
               clockStarted := true, clockPaused := false } := by
  unfold State.doQf
  rw [doRx_tag hp (isTagByte_tagByte 7), tagSlot_tagByte, doRx_seven rfl rfl, dataNibble_dataByte]
  simp [hp]

/-! ### `TXPOLL` and `TXRDY` -/

/-- Everything a poll can do. -/
theorem doTxpoll_cases (s : State) :
    (s.txPending = true ∧ s.txBusy = false ∧ s.transport = .running ∧ s.config.txEnable = true ∧
      s.doTxpoll = { s with txPending := false, txLatch := s.tc, txIdx := 0, txBusy := true }) ∨
    (s.txPending = true ∧ s.txBusy = false ∧ (s.transport ≠ .running ∨ s.config.txEnable = false) ∧
      s.doTxpoll = { s with txPending := false }) ∨
    ((s.txPending = false ∨ s.txBusy = true) ∧ s.doTxpoll = s) := by
  unfold State.doTxpoll State.startTransfer State.isRunning
  cases hp : s.txPending <;> cases hb : s.txBusy <;> cases he : s.config.txEnable <;>
    cases ht : s.transport <;> simp

theorem doTxpoll_idle {s : State} (h : s.txPending = false ∨ s.txBusy = true) : s.doTxpoll = s := by
  unfold State.doTxpoll
  cases hp : s.txPending <;> cases hb : s.txBusy <;> simp_all

theorem doTxrdy_idle {s : State} (h : s.txBusy = false) : s.doTxrdy = s := by
  simp [State.doTxrdy, h]

theorem doTxrdy_last {s : State} (h : s.txBusy = true) (hi : s.txIdx = 15) :
    s.doTxrdy = { s with txTrace := s.txTrace ++ [txByte 15 s.txLatch], txBusy := false } := by
  simp [State.doTxrdy, h, hi, State.nextByte, State.serialOut]

theorem doTxrdy_next {s : State} (h : s.txBusy = true) (hi : s.txIdx ≠ 15) :
    s.doTxrdy = { s with txTrace := s.txTrace ++ [txByte s.txIdx s.txLatch], txIdx := s.txIdx + 1 } := by
  unfold State.doTxrdy State.nextByte
  rw [if_pos h, if_neg (by exact hi)]
  rfl

/-- With no transfer in progress any number of acceptances changes nothing. -/
theorem iterate_doTxrdy_idle (n : Nat) {s : State} (h : s.txBusy = false) : State.doTxrdy^[n] s = s :=
  Function.iterate_fixed (doTxrdy_idle h) n

/-! ### Runs -/

/-- One step with a stimulus that decodes. -/
theorem step_cons {s : State} {x : Stimulus} {rest : List Stimulus} {i : Instr}
    (hd : decodeStimulus s.rxPhase x = some i) :
    step { s with pending := x :: rest } = exec i { s with pending := rest } := by
  simp [step, hd]

/-- A run peels its first step. -/
theorem stepTimes_cons {s t : State} {x : Stimulus} {rest : List Stimulus} {i : Instr} {n : Nat}
    (hd : decodeStimulus s.rxPhase x = some i) (he : exec i { s with pending := rest } = .next t) :
    stepTimes (n + 1) { s with pending := x :: rest } = stepTimes n t := by
  rw [stepTimes, step_cons hd, he]

end Sys2Proof.Machine
end

