-- ==== Sys2Proof/Laws/PerInstr.lean ====
section
/-! SUPPORT. Statements made per instruction. `TraceWords`: whatever an operation stands for in an event trace
is made of assigned event words only, none of them reserved. -/

namespace Sys2Proof.Machine

theorem decodeEvent_rxWord (b : Byte) : decodeEvent (rxWord b) = some (.rx b) := by
  revert b; decide

/-- Every word of a list is assigned. -/
def Assigned (ws : List EventWord) : Prop :=
  ∀ w ∈ ws, (decodeEvent w).isSome = true

theorem assigned_nil : Assigned [] := by
  intro w h; cases h

theorem assigned_cons {w : EventWord} {ws : List EventWord} (hw : (decodeEvent w).isSome = true)
    (hs : Assigned ws) : Assigned (w :: ws) := by
  intro x hx
  rcases List.mem_cons.1 hx with rfl | hx
  · exact hw
  · exact hs x hx

theorem assigned_append {a b : List EventWord} (ha : Assigned a) (hb : Assigned b) : Assigned (a ++ b) := by
  intro x hx
  rcases List.mem_append.1 hx with hx | hx
  · exact ha x hx
  · exact hb x hx

theorem assigned_replicate (n : Nat) {w : EventWord} (hw : (decodeEvent w).isSome = true) :
    Assigned (List.replicate n w) := by
  intro x hx
  rw [List.eq_of_mem_replicate hx]
  exact hw

theorem assigned_rxWord (b : Byte) : (decodeEvent (rxWord b)).isSome = true := by
  rw [decodeEvent_rxWord]; rfl

theorem assigned_qfWords (k : BitVec 3) (n : Nibble) : Assigned (qfWords k n) :=
  assigned_cons (assigned_rxWord _) (assigned_cons (assigned_rxWord _) assigned_nil)

theorem assigned_messages (l : List (BitVec 3 × Nibble)) :
    Assigned (l.flatMap fun x => qfWords x.1 x.2) := by
  intro w hw
  obtain ⟨x, -, hx⟩ := List.mem_flatMap.1 hw
  exact assigned_qfWords _ _ w hx

theorem assigned_wordIf (strobe : Bool) {w : EventWord} (hw : (decodeEvent w).isSome = true) :
    Assigned (wordIf strobe w) := by
  cases strobe
  · exact assigned_nil
  · exact assigned_cons hw assigned_nil

theorem assigned_cycleWords (i : CycleInputs) : Assigned (cycleWords i) := by
  unfold cycleWords
  split
  · exact assigned_cons rfl assigned_nil
  · refine assigned_append (assigned_append (assigned_append (assigned_append (assigned_append
      (assigned_append (assigned_append ?_ ?_) ?_) ?_) ?_) ?_) ?_) (assigned_cons rfl assigned_nil)
    · exact assigned_wordIf _ rfl
    · exact assigned_wordIf _ rfl
    · exact assigned_wordIf _ rfl
    · exact assigned_wordIf _ rfl
    · exact assigned_wordIf _ rfl
    · exact assigned_wordIf _ (assigned_rxWord _)
    · exact assigned_wordIf _ rfl

end Sys2Proof.Machine

namespace Sys2Proof.Laws.TraceWords

open Sys2Proof.Machine

/-- The words an operation stands for are assigned. -/
def Statement (i : Instr) : Prop :=
  ∀ ws, traceWords i = some ws → Assigned ws

theorem of_words {i : Instr} {ws : List EventWord} (h : traceWords i = some ws) (ha : Assigned ws) :
    Statement i := by
  intro x hx
  rw [h] at hx
  exact Option.some.inj hx ▸ ha

theorem of_none {i : Instr} (h : traceWords i = none) : Statement i := by
  intro x hx
  rw [h] at hx
  cases hx

theorem reset : Statement .reset := of_words rfl (assigned_cons rfl assigned_nil)

theorem tick : Statement .tick := of_words rfl (assigned_cons rfl assigned_nil)

theorem rx (b : Byte) : Statement (.rx b) := of_words rfl (assigned_cons (assigned_rxWord _) assigned_nil)

theorem start : Statement .start := of_words rfl (assigned_cons rfl assigned_nil)

theorem stop : Statement .stop := of_words rfl (assigned_cons rfl assigned_nil)

theorem pause : Statement .pause := of_words rfl (assigned_cons rfl assigned_nil)

theorem resume : Statement .resume := of_words rfl (assigned_cons rfl assigned_nil)

theorem txrdy : Statement .txrdy := of_words rfl (assigned_cons rfl assigned_nil)

theorem txpoll : Statement .txpoll := of_words rfl (assigned_cons rfl assigned_nil)

theorem rxTag (k : BitVec 3) : Statement (.rxTag k) := of_words rfl (assigned_cons (assigned_rxWord _) assigned_nil)

theorem rxData (u : Nibble) (n : Nibble) : Statement (.rxData u n) := of_words rfl (assigned_cons (assigned_rxWord _) assigned_nil)

theorem rxIgnore (b : Byte) : Statement (.rxIgnore b) := of_words rfl (assigned_cons (assigned_rxWord _) assigned_nil)

theorem txTag : Statement .txTag := of_none rfl

theorem txData : Statement .txData := of_none rfl

theorem inc : Statement .inc := of_none rfl

theorem setfrom (v : TimecodeValue) : Statement (.setfrom v) := of_none rfl

theorem cycle (i : CycleInputs) : Statement (.cycle i) := of_words rfl (assigned_cycleWords i)

theorem lineFrames : Statement .lineFrames := of_none rfl

theorem lineSeconds : Statement .lineSeconds := of_none rfl

theorem lineMinutes : Statement .lineMinutes := of_none rfl

theorem lineHours : Statement .lineHours := of_none rfl

theorem lineGround : Statement .lineGround := of_none rfl

theorem ticks (n : Nat) : Statement (.ticks n) := of_words rfl (assigned_replicate n rfl)

theorem frame : Statement .frame := of_words rfl (assigned_replicate 80 rfl)

theorem qf (k : BitVec 3) (n : Nibble) : Statement (.qf k n) := of_words rfl (assigned_qfWords k n)

theorem mtc (h : BitVec 5) (m : BitVec 6) (s : BitVec 6) (f : BitVec 5) : Statement (.mtc h m s f) := of_words rfl (assigned_messages _)

theorem drain : Statement .drain := of_words rfl (assigned_replicate 16 rfl)

theorem send : Statement .send := of_words rfl (assigned_cons rfl (assigned_replicate 16 rfl))

end Sys2Proof.Laws.TraceWords
end

