-- ==== Sys2Proof/Tests/Slice0.lean ====
section
/-! SUPPORT. Tests whose expected results are the vectors of 95_test_vectors.md (named by their ids) or are
written out from the encoding tables, and for every statement with hypotheses a witness that meets them. -/

namespace Sys2Proof.Tests

open Sys2Proof.Machine

/-! ### Helpers -/

/-- The state after, if there is one. -/
def next? (o : Host.Outcome State Fault Refusal) : Option State :=
  match o with
  | .next s => some s
  | .fault _ => none
  | .refused _ => none

/-- The refusal, if there is one. -/
def refusal? (o : Host.Outcome State Fault Refusal) : Option Refusal :=
  match o with
  | .next _ => none
  | .fault _ => none
  | .refused r => some r

/-- A component of the state after. -/
def got {α : Type} (f : State → α) (i : Instr) (s : State) : Option α :=
  (next? (exec i s)).map f

/-- Running with this counter and cursor. -/
def run (h : BitVec 5) (m sec : BitVec 6) (f : BitVec 5) (c : Fin 80) : State :=
  { State.reset with tc := ⟨h, m, sec, f⟩, cursor := c, clockStarted := true }

/-- `run`, then paused, the level being high. -/
def paused (c : Fin 80) : State :=
  { run 1 2 3 4 c with clockPaused := true, level := .high }

/-- A data byte is expected for slot `k`. -/
def expecting (k : BitVec 3) : State :=
  { State.reset with rxPhase := .data, rxSlot := k }

/-- A transfer of `01:02:03:04` in progress at byte `i`, while Running. -/
def sending (i : BitVec 4) : State :=
  { run 1 2 3 5 0 with txBusy := true, txIdx := i, txLatch := ⟨1, 2, 3, 4⟩ }

/-- A frame is complete and nothing is being sent, while Running. -/
def frameDone : State :=
  { run 1 2 3 5 0 with txPending := true }

/-- A clock cycle with everything but reset at 1 and data byte 0x01. -/
def busyCycle : CycleInputs :=
  ⟨false, true, true, true, true, true, true, 0x01, true⟩

/-- Levels written with one digit a tick: 0 ground, 1 low, 2 high. -/
def codes (ls : List Level) : List Nat :=
  ls.map fun l => l.code.toNat

/-! ### WellFormed refuses the ill-formed -/

theorem test_wf_ignore_of_a_tag_byte : (Instr.rxIgnore 0xF3).wellFormed = false := by decide
theorem test_wf_ignore_first_tag_byte : (Instr.rxIgnore 0xF0).wellFormed = false := by decide
theorem test_wf_ignore_last_tag_byte : (Instr.rxIgnore 0xF7).wellFormed = false := by decide
theorem test_wf_ignore_neighbours :
    (Instr.rxIgnore 0xEF).wellFormed = true ∧ (Instr.rxIgnore 0xF8).wellFormed = true := by decide

/-! ### Decoding, words written out from 30_encoding.md R91 to R96 -/

theorem test_decode_reset : decodeEvent 0b0000_00000000#12 = some .reset := by decide
theorem test_decode_tick : decodeEvent 0b0001_00000000#12 = some .tick := by decide
theorem test_decode_rx : decodeEvent 0b0010_10110101#12 = some (.rx 0b10110101#8) := by decide
theorem test_decode_start : decodeEvent 0b0011_00000000#12 = some .start := by decide
theorem test_decode_stop : decodeEvent 0b0100_00000000#12 = some .stop := by decide
theorem test_decode_pause : decodeEvent 0b0101_00000000#12 = some .pause := by decide
theorem test_decode_resume : decodeEvent 0b0110_00000000#12 = some .resume := by decide
theorem test_decode_txrdy : decodeEvent 0b0111_00000000#12 = some .txrdy := by decide
theorem test_decode_txpoll : decodeEvent 0b1000_00000000#12 = some .txpoll := by decide
theorem test_decode_rx_tag : decodeSerial .idle 0b11110_110#8 = .rxTag 0b110#3 := by decide
theorem test_decode_rx_data : decodeSerial .data 0b1010_0011#8 = .rxData 0b1010#4 0b0011#4 := by decide
theorem test_decode_rx_ignore : decodeSerial .idle 0b11111_000#8 = .rxIgnore 0b11111000#8 := by decide
theorem test_decode_tag_pattern_is_data_in_data :
    decodeSerial .data 0b11110_111#8 = .rxData 0b1111#4 0b0111#4 := by decide
theorem test_decode_cycle : decodeStimulus .data (.edge busyCycle) = some (.cycle busyCycle) := by decide
/-- V-E7, V-E8. -/
theorem test_decode_reserved :
    [0x101, 0x3FF, 0x001, 0x900, 0xA12, 0xFFF, 0x1000].map decodeWord = List.replicate 7 none := by decide

/-! ### The bytes of the transmit rows, the line rows and the pseudo-operations have no stimulus of their own -/

theorem test_encode_none :
    [Instr.txTag, .txData, .inc, .setfrom ⟨1, 2, 3, 4⟩, .lineFrames, .lineSeconds, .lineMinutes, .lineHours,
      .lineGround, .ticks 3, .frame, .qf 1 2, .mtc 1 2 3 4, .drain, .send].map encode =
    List.replicate 15 none := by decide

/-- The table's word of `RX.TAG` and of `TX.TAG` is one serial byte, decoded where a tag is expected. -/
theorem test_table_word_serial : decodeTableWord 8 0xF5 = some (.rxTag 5) := by decide
theorem test_table_word_event : decodeTableWord 16 0x2F7 = some (.rx 0xF7) := by decide
theorem test_fetch_word_event :
    (next? (step (State.reset.withFetchWord 16 0x300))) = next? (exec .start State.reset) := by decide
theorem test_fetch_word_serial :
    (next? (step (State.reset.withFetchWord 8 0xF5))) = next? (exec (.rxTag 5) State.reset) := by decide
theorem test_fetch_reserved :
    refusal? (step (State.reset.withFetchWord 16 0x900)) = some (.reservedWord (.word 0x900) 0) := by decide

/-! ### timecode_counter (V-K) -/

/-- V-K8. -/
theorem test_inc_day_wrap : got State.tc .inc (run 23 59 59 29 0) = some ⟨0, 0, 0, 0⟩ := by decide
/-- V-K12: 31 + 1 is compared before truncation. -/
theorem test_inc_frames_31 : got State.tc .inc (run 0 0 0 31 0) = some ⟨0, 0, 1, 0⟩ := by decide
/-- V-K3, V-K13. -/
theorem test_inc_rate_24 :
    got State.tc .inc { run 0 0 0 23 0 with config := ⟨.fps24, true⟩ } = some ⟨0, 0, 1, 0⟩ ∧
    got State.tc .inc { run 0 0 0 29 0 with config := ⟨.fps24, true⟩ } = some ⟨0, 0, 1, 0⟩ := by decide
/-- V-K18. -/
theorem test_inc_hours_24_stay : got State.tc .inc (run 24 0 0 0 0) = some ⟨24, 0, 0, 1⟩ := by decide
/-- V-S2, V-K21. -/
theorem test_setfrom_invalid :
    got (fun s => (s.tc, s.cursor)) (.setfrom ⟨31, 63, 63, 31⟩) (run 0 0 0 0 40) =
      some (⟨31, 63, 63, 31⟩, 40) := by decide

/-! ### line_level_encoder (V-L, V-S3) -/

/-- V-L8, V-L9. -/
theorem test_tick_frames_bit :
    got (fun s => (s.level, s.cursor)) .tick (run 0 0 0 7 2) = some (.high, 3) ∧
    got (fun s => (s.level, s.cursor)) .tick (run 0 0 0 7 3) = some (.low, 4) := by decide
/-- V-L15. -/
theorem test_tick_wrap :
    got (fun s => (s.level, s.cursor, s.tc, s.txPending)) .tick (run 0 0 0 29 79) =
      some (.ground, 0, ⟨0, 0, 1, 0⟩, true) := by decide
/-- V-L7's slot 4: bit 4 of frames is not emitted. -/
theorem test_line_frames : got State.level .lineFrames (run 0 0 0 16 4) = some .low := by decide
/-- V-L10, V-L11. -/
theorem test_line_seconds :
    got State.level .lineSeconds (run 0 0 56 0 37) = some .high ∧
    got State.level .lineSeconds (run 0 0 63 0 38) = some .low := by decide
/-- V-X1's slot 41: minutes bit 1 of 10. -/
theorem test_line_minutes : got State.level .lineMinutes (run 0 10 0 0 41) = some .high := by decide
/-- V-L12, V-L13. -/
theorem test_line_hours :
    got State.level .lineHours (run 23 0 0 0 52) = some .high ∧
    got State.level .lineHours (run 31 0 0 0 53) = some .low := by decide
/-- V-L16. -/
theorem test_line_ground_stopped :
    got (fun s => (s.level, s.cursor, s.tc)) .lineGround { run 0 0 0 29 79 with clockStarted := false } =
      some (.ground, 79, ⟨0, 0, 0, 29⟩) := by decide
/-- V-L15 through its own row. -/
theorem test_line_ground :
    got (fun s => (s.level, s.cursor, s.tc)) .lineGround (run 0 0 0 29 79) =
      some (.ground, 0, ⟨0, 0, 1, 0⟩) := by decide
/-- V-S7, shortened. -/
theorem test_ticks_paused :
    got (fun s => (s.tc, s.cursor, codes s.lineTrace)) (.ticks 3) (paused 17) =
      some (⟨1, 2, 3, 4⟩, 17, [0, 0, 0]) := by decide
/-- V-S3. -/
theorem test_frame_levels :
    got (fun s => codes s.lineTrace) .frame (run 12 34 56 7 0) =
      some ((List.replicate 8 [2, 2, 2, 1]).flatten ++ [1, 1, 1, 2, 2, 2, 1, 1] ++ [1, 2, 1, 1, 1, 2, 1, 1] ++
        [1, 1, 2, 2, 1] ++ List.replicate 26 1 ++ [0]) := by decide +kernel
/-- V-S3: the counter after the frame. -/
theorem test_frame_counter : got State.tc .frame (run 12 34 56 7 0) = some ⟨12, 34, 56, 8⟩ := by
  decide +kernel

/-! ### quarter_frame_receiver (V-Q) -/

/-- V-Q1. -/
theorem test_rx_tag :
    got (fun s => (s.rxPhase, s.rxSlot)) (.rxTag 2) State.reset = some (.data, 2) := by decide
/-- V-Q5. -/
theorem test_rx_data_high_half :
    got (fun s => (s.slot.toList, s.rxPhase)) (.rxData 0xA 0xB) (expecting 1) =
      some ([0, 0xB, 0, 0, 0, 0, 0, 0], .idle) := by decide
/-- V-Q8's second byte. -/
theorem test_rx_seven :
    got (fun s => (s.tc, s.clockStarted, s.clockPaused)) (.rx 0xF7) (expecting 7) =
      some (⟨16, 0, 0, 0⟩, true, false) := by decide
/-- V-Q9. -/
theorem test_rx_resumes_paused :
    got (fun s => (s.tc, s.clockPaused)) (.rx 0x00) { paused 5 with rxPhase := .data, rxSlot := 7 } =
      some (⟨0, 0, 0, 0⟩, false) := by decide
/-- V-Q4. -/
theorem test_rx_ignore : next? (exec (.rxIgnore 0xF8) State.reset) = some State.reset := by decide
/-- V-S5. -/
theorem test_qf_seven_alone :
    got (fun s => (s.tc, s.clockStarted, s.rxPhase, s.rxSlot)) (.qf 7 0) State.reset =
      some (⟨0, 0, 0, 0⟩, true, .idle, 7) := by decide
/-- V-Q11. -/
theorem test_mtc :
    got (fun s => (s.slot.toList, s.tc)) (.mtc 12 34 56 7) State.reset =
      some ([7, 0, 8, 3, 2, 2, 0xC, 0], ⟨12, 34, 56, 7⟩) := by decide

/-! ### quarter_frame_transmitter (V-T) -/

/-- V-T3. -/
theorem test_transfer_bytes :
    transferBytes ⟨23, 59, 59, 29⟩ =
      [0xF0, 0x0D, 0xF1, 0x01, 0xF2, 0x0B, 0xF3, 0x03, 0xF4, 0x0B, 0xF5, 0x03, 0xF6, 0x07, 0xF7, 0x01] := by
  decide
/-- P1: the poll latches the counter as it is after the wrap. -/
theorem test_txpoll_starts :
    got (fun s => (s.txBusy, s.txPending, s.txLatch)) .txpoll frameDone =
      some (true, false, ⟨1, 2, 3, 5⟩) := by decide
/-- V-T8: dropped, not Running. -/
theorem test_txpoll_drops :
    got (fun s => (s.txBusy, s.txPending)) .txpoll { frameDone with clockPaused := true } =
      some (false, false) := by decide
/-- V-T13. -/
theorem test_txrdy_last :
    got (fun s => (s.txTrace, s.txBusy, s.txIdx)) .txrdy (sending 15) = some ([0x00], false, 15) := by decide
/-- V-T2's byte 4. -/
theorem test_tx_tag : got (fun s => (s.txTrace, s.txIdx)) .txTag (sending 4) = some ([0xF2], 5) := by decide
/-- V-T2's byte 5. -/
theorem test_tx_data : got (fun s => (s.txTrace, s.txIdx)) .txData (sending 5) = some ([0x03], 6) := by decide
/-- V-T2's last four bytes. -/
theorem test_drain :
    got (fun s => (s.txTrace, s.txBusy, s.txIdx)) .drain (sending 12) =
      some ([0xF6, 0x01, 0xF7, 0x00], false, 15) := by decide
/-- P1's `TXPOLL`, `DRAIN`. -/
theorem test_send :
    got State.txTrace .send frameDone =
      some [0xF0, 0x05, 0xF1, 0x00, 0xF2, 0x03, 0xF3, 0x00, 0xF4, 0x02, 0xF5, 0x00, 0xF6, 0x01, 0xF7, 0x00] := by
  decide

/-! ### transport_state_machine (V-X, V-S6) and the clocked shell (V-Y) -/

/-- 30_encoding.md R104. -/
theorem test_rx_phase_codes : [RxPhase.idle, .data].map (fun p => p.code.toNat) = [0, 1] := by decide
theorem test_start_from_paused : got State.transport .start (paused 0) = some .running := by decide
theorem test_stop_keeps_cursor :
    got (fun s => (s.transport, s.cursor)) .stop (run 0 10 0 0 41) = some (.stopped, 41) := by decide
theorem test_pause_from_stopped : got State.transport .pause State.reset = some .stopped := by decide
theorem test_resume_from_paused : got State.transport .resume (paused 0) = some .running := by decide
/-- V-Y1. -/
theorem test_cycle_reset :
    next? (exec (.cycle { busyCycle with rst := true }) (sending 3)) = some State.reset := by decide
/-- V-Y6. -/
theorem test_cycle_back_to_back :
    got (fun s => (s.txTrace, s.txBusy, s.txIdx, s.txLatch, s.txPending))
      (.cycle { quietCycle with txReady := true }) { sending 15 with txPending := true } =
      some ([0x00], true, 0, ⟨1, 2, 3, 5⟩, false) := by decide
theorem test_reset : next? (exec .reset (sending 3)) = some State.reset := by decide

/-! ### The trace assembly (30_encoding.md R105, R106) -/

/-- A line of P2's header, as characters. -/
theorem test_asm_header :
    readLine "CONFIG fps=25 tx_enable=1".toList = some (.header 25 true) := by decide
theorem test_asm_mtc :
    readLine "MTC 1, 2, 3, 4        ; = QF 0,4".toList = some (.operation (.mtc 1 2 3 4)) := by decide
theorem test_asm_hexadecimal : readLine "QF 1, 0xF".toList = some (.operation (.qf 1 0xF)) := by decide
theorem test_asm_out_of_range : readLine "QF 8, 0".toList = none := by decide
/-- P3's event words for its first two operations. -/
theorem test_asm_words :
    (match assembleTrace 1 ["CONFIG fps=30 tx_enable=0".toList, "RESET".toList, "QF 7, 0".toList] with
      | .ok r => some r
      | .error _ => none) = some (⟨.fps30, false⟩, [0x000, 0x2F7, 0x200]) := by decide
theorem test_load_frame_rate :
    refusal? (State.loadText ["CONFIG fps=29 tx_enable=0".toList]) = some (.unsupportedFrameRate 29) := by decide
theorem test_load_second_header :
    refusal? (State.loadText ["CONFIG fps=30 tx_enable=0".toList, "CONFIG fps=25 tx_enable=0".toList]) =
      some (.configurationChanged 2) := by decide

/-! ### Witnesses: a concrete input meets the hypotheses of each statement that has some -/

theorem witness_StepPerformsTheFirstPendingOperation :
    State.reset.pending = [] ∧
    (State.reset.withFetchWord 16 0x8FF).pending = .word 0x8FF :: [] ∧
    decodeStimulus .idle (.word 0x8FF) = none ∧ decodeStimulus .idle (.word 0x800) = some .txpoll := by decide
/-- Each way of the conclusion is taken: unchanged, wrap, reassembly, reset. -/
theorem witness_CounterHasTwoWritersAndReset :
    IsExternal .start ∧ got State.tc .start (run 1 2 3 4 0) = some (run 1 2 3 4 0).tc ∧
    IsExternal .tick ∧ got State.tc .tick (run 1 2 3 4 79) = some ⟨1, 2, 3, 5⟩ ∧
    IsExternal (.rx 0) ∧ got State.tc (.rx 0) { expecting 7 with tc := ⟨1, 2, 3, 4⟩ } = some ⟨0, 0, 0, 0⟩ ∧
    IsExternal .reset ∧ got State.tc .reset (run 1 2 3 4 0) = some ⟨0, 0, 0, 0⟩ := by decide
theorem witness_OnlyTheOwnersWrite :
    IsExternal .tick ∧ Instr.tick ≠ .reset ∧ (next? (exec .tick (run 1 2 3 4 0))).isSome ∧
    IsExternal (.rx 0x05) ∧ ¬ (run 1 2 3 4 0).AwaitsSlotSeven ∧ IsExternal .txpoll ∧
    Instr.rx 0x05 ≠ .tick ∧ Instr.rx 0x05 ≠ .txpoll ∧ Instr.rx 0x05 ≠ .txrdy ∧
    (next? (exec (.rx 0x05) (run 1 2 3 4 0))).isSome := by decide
theorem witness_IncrementCountsOneFrame :
    (run 23 59 59 29 0).tc.Valid .fps30 ∧ (run 0 0 0 0 0).tc.Valid .fps30 := by decide
theorem witness_IncrementRunsThroughADay :
    TimecodeValue.Valid .fps24 ⟨23, 59, 59, 23⟩ ∧ TimecodeValue.Valid .fps25 ⟨0, 0, 0, 0⟩ := by decide
theorem witness_TickShowsOneBit :
    (run 1 2 3 4 0).transport = .running ∧ (1 : Fin 80).val = (run 1 2 3 4 0).cursor.val + 1 ∧
    (run 1 2 3 4 78).transport = .running ∧ (79 : Fin 80).val = (run 1 2 3 4 78).cursor.val + 1 := by decide
theorem witness_TickAtSlotSeventyNineWraps :
    (run 1 2 3 4 79).transport = .running ∧ (run 1 2 3 4 79).cursor.val = 79 := by decide
theorem witness_TicksWhileNotRunningOnlyGround :
    State.reset.transport ≠ .running ∧ (paused 79).transport ≠ .running := by decide
/-- Both ends of each range, for each of the five rows. -/
theorem witness_LineRowsShowTheirField :
    (run 1 2 3 4 0).transport = .running ∧ (run 1 2 3 4 0).cursor.val < 32 ∧ (run 1 2 3 4 31).cursor.val < 32 ∧
    (32 : Fin 80).val = (run 1 2 3 4 31).cursor.val + 1 ∧
    32 ≤ (run 1 2 3 4 32).cursor.val ∧ (run 1 2 3 4 39).cursor.val < 40 ∧
    (40 : Fin 80).val = (run 1 2 3 4 39).cursor.val + 1 ∧
    40 ≤ (run 1 2 3 4 40).cursor.val ∧ (run 1 2 3 4 47).cursor.val < 48 ∧
    (48 : Fin 80).val = (run 1 2 3 4 47).cursor.val + 1 ∧
    48 ≤ (run 1 2 3 4 48).cursor.val ∧ (run 1 2 3 4 78).cursor.val < 79 ∧
    (79 : Fin 80).val = (run 1 2 3 4 78).cursor.val + 1 ∧ (run 1 2 3 4 79).cursor.val = 79 := by decide
theorem witness_FrameShowsTheCounter :
    (run 31 63 63 31 0).transport = .running ∧ (run 31 63 63 31 0).cursor.val = 0 := by decide
theorem witness_FrameDecodesBack :
    (run 12 34 56 7 0).transport = .running ∧ (run 12 34 56 7 0).cursor.val = 0 := by decide
theorem witness_EightyTicksWrapOnce :
    (run 1 2 3 4 79).transport = .running ∧ (run 1 2 3 4 33).transport = .running := by decide
theorem witness_TornFrameShowsBothValues :
    (run 0 0 0 0 0).transport = .running ∧ (run 0 0 0 0 0).cursor.val = 0 ∧ 0 < 80 ∧ 79 < 80 := by decide
theorem witness_PauseFreezesTheFrame : (run 1 2 3 4 79).transport = .running := by decide
theorem witness_TagByteIsRemembered :
    State.reset.rxPhase = .idle ∧ (0xF0 : Byte).toNat = 0xF0 + (0 : BitVec 3).toNat ∧
    (0xF7 : Byte).toNat = 0xF0 + (7 : BitVec 3).toNat := by decide
theorem witness_DataByteIsStored :
    (expecting 6).rxPhase = .data ∧ (expecting 6).rxSlot ≠ 7 ∧
    (0xF7 : Byte).toNat = 16 * (0xF : Nibble).toNat + (7 : Nibble).toNat := by decide
theorem witness_SlotSevenReassembles :
    (expecting 7).rxPhase = .data ∧ (expecting 7).rxSlot = 7 ∧
    (0x00 : Byte).toNat = 16 * (0 : Nibble).toNat + (0 : Nibble).toNat := by decide
theorem witness_OtherBytesAreIgnored :
    State.reset.rxPhase = .idle ∧ (0xEF : Byte).toNat < 0xF0 ∧ 0xF8 ≤ (0xF8 : Byte).toNat := by decide
theorem witness_ReceivedByteRowsAgreeWithRx :
    (0xF7 : Byte).toNat = 0xF0 + (7 : BitVec 3).toNat ∧
    (0xF7 : Byte).toNat = 16 * (0xF : Nibble).toNat + (7 : Nibble).toNat := by decide
theorem witness_LostDataByteCostsTwoMessages : State.reset.rxPhase = .idle ∧ (6 : BitVec 3) ≠ 7 := by decide
theorem witness_MessageFillsItsSlot : State.reset.rxPhase = .idle ∧ (6 : BitVec 3) ≠ 7 := by decide
theorem witness_MtcLoadsTheExactValue : State.reset.rxPhase = .idle := by decide
theorem witness_TransmittedValueIsReceivedExactly : (run 1 2 3 4 7).rxPhase = .idle := by decide
theorem witness_PollServesTheFrameFlag :
    frameDone.txPending = true ∧ frameDone.txBusy = false ∧ frameDone.transport = .running ∧
    frameDone.config.txEnable = true ∧
    ({ frameDone with clockPaused := true } : State).transport ≠ .running ∧
    ({ frameDone with config := ⟨.fps30, false⟩ } : State).config.txEnable = false ∧
    State.reset.txPending = false ∧ (sending 0).txBusy = true := by decide
theorem witness_ReadySinkTakesOneByte :
    (sending 0).txBusy = true ∧ (sending 15).txBusy = true ∧ State.reset.txBusy = false := by decide
theorem witness_TransmitRowsEmitTheirByte :
    (sending 14).txBusy = true ∧ (sending 14).txIdx.toNat % 2 = 0 ∧
    (0xF7 : Byte).toNat = 0xF0 + (sending 14).txIdx.toNat / 2 ∧
    (sending 13).txIdx.toNat % 2 = 1 ∧ (sending 13).txIdx.toNat ≠ 15 ∧
    (expectedTransfer (sending 13).txLatch)[(sending 13).txIdx.toNat]? = some (0x01 : Byte).toNat ∧
    (sending 15).txIdx.toNat = 15 ∧ (0x00 : Byte).toNat = (sending 15).txLatch.hours.toNat / 16 := by decide
theorem witness_DrainSendsTheRest : (sending 15).txBusy = true ∧ State.reset.txBusy = false := by decide
theorem witness_SendTransmitsTheCounter :
    frameDone.txPending = true ∧ frameDone.txBusy = false ∧ frameDone.transport = .running ∧
    frameDone.config.txEnable = true ∧
    ({ frameDone with clockPaused := true } : State).transport ≠ .running ∧
    (sending 15).txBusy = true ∧ State.reset.txPending = false ∧ State.reset.txBusy = false := by decide
theorem witness_TransferIsUndisturbed :
    IsExternal (.rx 0) ∧ (sending 3).txBusy = true ∧ (next? (exec (.rx 0) (sending 3))).isSome ∧
    IsExternal .txpoll ∧ Instr.txpoll ≠ .reset ∧ Instr.txpoll ≠ .txrdy := by decide
theorem witness_WrapsDuringATransferCoalesce :
    (sending 5).transport = .running ∧ (sending 5).cursor.val = 0 ∧ (sending 5).txBusy = true ∧
    (sending 5).config.txEnable = true ∧ 0 < 2 := by decide
theorem witness_TransportTransitionTable :
    State.reset.FlagsLegal ∧ (run 1 2 3 4 0).FlagsLegal ∧ (paused 0).FlagsLegal := by decide
theorem witness_ControlsAreIdempotent :
    Instr.pause ∈ [Instr.start, .stop, .pause, .resume] ∧ (next? (exec .pause (paused 0))).isSome := by decide
theorem witness_CycleIsTheFixedSequence :
    ({ busyCycle with rst := true } : CycleInputs).rst = true ∧ busyCycle.rst = false := by decide
theorem witness_TraceWordsPerformTheOperation :
    traceWords (.qf 3 0xA) = some [0x2F3, 0x20A] ∧ traceWords (.ticks 0) = some [] ∧
    traceWords (.cycle { quietCycle with tick := true }) = some [0x100, 0x800] := by decide
theorem witness_WordOnThePortsAddsAPoll :
    portsOf .txpoll = some quietCycle ∧ portsOf (.rx 0xF7) = some { quietCycle with rxValid := true, rxData := 0xF7 } := by
  decide
theorem witness_ReassemblyWinsTheCycle :
    busyCycle.rst = false ∧ busyCycle.rxValid = true ∧ (expecting 7).AwaitsSlotSeven := by decide
theorem witness_StopWinsTheCycle :
    busyCycle.rst = false ∧ busyCycle.stop = true ∧
    ¬ (busyCycle.rxValid = true ∧ (run 1 2 3 4 79).AwaitsSlotSeven) ∧ busyCycle.tick = true ∧
    ({ busyCycle with tick := false } : CycleInputs).tick = false := by decide
theorem witness_OfferedByteIsHeld :
    quietCycle.rst = false ∧ quietCycle.txReady = false ∧ (sending 15).outputs.txValid = true := by decide
theorem witness_PortsShowTheRegisters : (sending 15).txBusy = true ∧ State.reset.txBusy = false := by decide
theorem witness_IdleTransferRegistersAreInvisible :
    frameDone.txBusy = false ∧ (next? (exec .txpoll frameDone)).isSome ∧
    (next? (exec .txpoll { frameDone with txIdx := 9, txLatch := ⟨9, 9, 9, 9⟩ })).isSome ∧
    got State.txBusy .txpoll frameDone = some true := by decide
theorem witness_DecodeOfEncode :
    (Instr.rxIgnore 0xF8).wellFormed = true ∧ (Instr.rxIgnore 0xF8).appliesIn .idle = true ∧
    encode (.rxIgnore 0xF8) = some (.byte 0xF8) ∧ (Instr.rxData 0xF 7).appliesIn .data = true ∧
    encode (.rxData 0xF 7) = some (.byte 0xF7) := by decide
theorem witness_EncodeOfDecode :
    decodeStimulus .data (.byte 0xF7) = some (.rxData 0xF 7) ∧
    decodeStimulus .idle (.word 0x2FF) = some (.rx 0xFF) := by decide
theorem witness_LoaderRefusesReservedEntries :
    (∀ y ∈ [Stimulus.word 0x2F7, .byte 0x05], decodeStimulus .idle y ≠ none) ∧
    decodeStimulus .idle (.word 0x101) = none := by decide

/-- The one state of the next two witnesses. -/
def soundState : State :=
  { State.reset with pending := [.word 0x100, .byte 0xF7] }

theorem witness_StepKeepsSound : soundState.Sound ∧ (next? (step soundState)).isSome :=
  ⟨⟨by decide, by decide, ⟨[], by decide⟩, by decide, by decide⟩, by decide⟩

/-- A value at the end of the day, with the byte that completes it arriving next. -/
def loadState : State :=
  { expecting 7 with slot := #v[13, 1, 11, 3, 11, 3, 7, 0], pending := [.byte 0x01] }

theorem witness_ValidCounterIsKept :
    loadState.tc.Valid loadState.config.fps ∧ loadState.pending = .byte 0x01 :: [] ∧
    (Stimulus.byte 0x01).deliversByte = some 0x01 ∧ loadState.LoadsValid 0x01 ∧
    (next? (step loadState)).map State.tc = some ⟨23, 59, 59, 29⟩ := by decide

end Sys2Proof.Tests
end

section
/-! PROOFS. timecode_counter: `SETFROM` and the timecode readout (40_timecode_counter.md R131, R132). -/

namespace Sys2Proof.Machine

/-! ### What `SETFROM` does -/

@[simp] theorem exec_setfrom (v : TimecodeValue) (s : State) :
    exec (.setfrom v) s = .next (s.setFrom v) := rfl

/-- `SETFROM` is internal: it has no word, no byte and no clock edge of its own. -/
@[simp] theorem encode_setfrom (v : TimecodeValue) : encode (.setfrom v) = none := rfl

/-- The whole frame of `SETFROM`: the counter takes the operand as given, every other field stays. -/
theorem State.setFrom_eq (v : TimecodeValue) (s : State) : s.setFrom v = { s with tc := v } := rfl

/-! ### The readout ports follow the counter (R132) -/

@[simp] theorem State.outputs_tcHours (s : State) : s.outputs.tcHours = s.tc.hours := rfl
@[simp] theorem State.outputs_tcMinutes (s : State) : s.outputs.tcMinutes = s.tc.minutes := rfl
@[simp] theorem State.outputs_tcSeconds (s : State) : s.outputs.tcSeconds = s.tc.seconds := rfl
@[simp] theorem State.outputs_tcFrames (s : State) : s.outputs.tcFrames = s.tc.frames := rfl

/-! ### The obligation -/

/-- Settles O9: the next state is `s.setFrom v`, and each readout port shows the counter of that state, which
is `v`. -/
theorem setFromStoresAnyValue : Obligations.SetFromStoresAnyValue := by
  intro v s
  refine ⟨encode_setfrom v, s.setFrom v, exec_setfrom v s, State.setFrom_eq v s, ?hours, ?minutes, ?seconds, ?frames⟩
  case hours => rw [State.outputs_tcHours, State.setFrom_tc]
  case minutes => rw [State.outputs_tcMinutes, State.setFrom_tc]
  case seconds => rw [State.outputs_tcSeconds, State.setFrom_tc]
  case frames => rw [State.outputs_tcFrames, State.setFrom_tc]

end Sys2Proof.Machine
end

section
/-! PROOFS. quarter_frame_receiver: a tag byte where a tag is expected (42_quarter_frame_receiver.md R171). -/

namespace Sys2Proof.Machine

/-! ### The tag bytes -/

/-- The bytes 0xF0 to 0xF7 of R171 are the machine's own tag bytes. -/
theorem eq_tagByte_of_toNat {b : Byte} {k : BitVec 3} (h : b.toNat = 0xF0 + k.toNat) : b = tagByte k :=
  BitVec.eq_of_toNat_eq (h.trans (tagByte_toNat k).symm)

/-! ### What `RX` and `RX.TAG` do with one -/

@[simp] theorem exec_rx (b : Byte) (s : State) : exec (.rx b) s = .next (s.doRx b) := rfl

/-- Where a tag is expected, the tag byte of slot `k` is a tag for slot `k`. -/
theorem doRx_tagByte {s : State} (k : BitVec 3) (hp : s.rxPhase = .idle) :
    s.doRx (tagByte k) = { s with rxSlot := k, rxPhase := .data } := by
  rw [doRx_tag hp (isTagByte_tagByte k), tagSlot_tagByte]

/-- `RX.TAG` is `RX` of its tag byte, in either phase. -/
theorem exec_rxTag (k : BitVec 3) (s : State) : exec (.rxTag k) s = .next (s.doRx (tagByte k)) := by
  change execRxTag k s = _
  unfold execRxTag
  cases hp : s.rxPhase with
  | idle => rw [doRx_tagByte k hp, State.acceptTag]
  | data => rfl

/-! ### The obligation -/

/-- Settles O20: the byte is the tag byte of slot `k`, so `RX` and `RX.TAG` are the one reception of
`doRx_tagByte`. -/
theorem tagByteIsRemembered : Obligations.TagByteIsRemembered := by
  intro s b k hp hb
  obtain rfl : b = tagByte k := eq_tagByte_of_toNat hb
  rw [exec_rx, exec_rxTag, doRx_tagByte k hp]
  exact ⟨rfl, rfl⟩

end Sys2Proof.Machine
end

section
/-! PROOFS. quarter_frame_transmitter: the sixteen bytes of a transfer (43_quarter_frame_transmitter.md R192, R193;
30_encoding.md R98). -/

namespace Sys2Proof.Machine

/-! ### The nibble table (R193, 30_encoding.md R98) -/

/-- Bits 3:0 of a field. -/
theorem toNat_lowNibble {w : Nat} (x : BitVec w) : (x.extractLsb' 0 4).toNat = x.toNat % 16 := by
  rw [BitVec.extractLsb'_toNat, Nat.shiftRight_zero]

/-- Bits 7:4 of a field of at most eight bits are all of it above its low nibble. -/
theorem toNat_highNibble {w : Nat} (x : BitVec w) (hw : w ≤ 8) : (x.extractLsb' 4 4).toNat = x.toNat / 16 := by
  have hx : x.toNat < 2 ^ 8 := x.isLt.trans_le (Nat.pow_le_pow_right (by decide) hw)
  rw [BitVec.extractLsb'_toNat, Nat.shiftRight_eq_div_pow]
  omega

/-- Slots 0 and 1 split the frames. -/
theorem nib_frames (v : TimecodeValue) :
    (nib 0 v).toNat = v.frames.toNat % 16 ∧ (nib 1 v).toNat = v.frames.toNat / 16 :=
  ⟨toNat_lowNibble v.frames, toNat_highNibble v.frames (by decide)⟩

/-- Slots 2 and 3 split the seconds. -/
theorem nib_seconds (v : TimecodeValue) :
    (nib 2 v).toNat = v.seconds.toNat % 16 ∧ (nib 3 v).toNat = v.seconds.toNat / 16 :=
  ⟨toNat_lowNibble v.seconds, toNat_highNibble v.seconds (by decide)⟩

/-- Slots 4 and 5 split the minutes. -/
theorem nib_minutes (v : TimecodeValue) :
    (nib 4 v).toNat = v.minutes.toNat % 16 ∧ (nib 5 v).toNat = v.minutes.toNat / 16 :=
  ⟨toNat_lowNibble v.minutes, toNat_highNibble v.minutes (by decide)⟩

/-- Slots 6 and 7 split the hours. -/
theorem nib_hours (v : TimecodeValue) :
    (nib 6 v).toNat = v.hours.toNat % 16 ∧ (nib 7 v).toNat = v.hours.toNat / 16 :=
  ⟨toNat_lowNibble v.hours, toNat_highNibble v.hours (by decide)⟩

/-! ### The eight messages of a transfer (R192) -/

/-- A transfer is the messages of slots 0 to 7 in order, each the tag byte of its slot and the data byte of its
nibble. -/
theorem transferBytes_eq_messages (v : TimecodeValue) :
    transferBytes v =
      ([0, 1, 2, 3, 4, 5, 6, 7] : List (BitVec 3)).flatMap fun k => [tagByte k, dataByte 0 (nib k v)] := rfl

/-- The two bytes of slot `k` as numbers: `0xF0 + k`, and the nibble below a zero high half. -/
theorem message_toNat (k : BitVec 3) (v : TimecodeValue) :
    [tagByte k, dataByte 0 (nib k v)].map BitVec.toNat = [0xF0 + k.toNat, (nib k v).toNat] := by
  simp [tagByte_toNat, dataByte_toNat]

/-! ### The obligation -/

/-- Settles O33: the transfer is its eight messages, each two numbers by `message_toNat`, and the four splits of
R193 give the second of them from the fields. -/
theorem transferLayout : Obligations.TransferLayout := by
  intro v
  rw [transferBytes_eq_messages, List.map_flatMap]
  simp only [message_toNat, List.flatMap_cons, List.flatMap_nil, nib_frames, nib_seconds, nib_minutes, nib_hours]
  rfl

end Sys2Proof.Machine
end

section
/-! PROOFS. transport_state_machine: `STOP` (44_transport_controller.md R211). -/

namespace Sys2Proof.Machine

/-! ### What `STOP` does -/

@[simp] theorem exec_stop (s : State) : exec .stop s = .next s.doStop := rfl

/-- The event word of `STOP` (30_encoding.md R92). -/
@[simp] theorem encode_stop : encode .stop = some (.word 0x400) := rfl

/-- The port activity of `STOP` (45_top_level_step.md R231). -/
@[simp] theorem portsOf_stop : portsOf .stop = some { quietCycle with stop := true } := rfl

/-- The whole frame of `STOP`: both flags are reset, every other field stays. -/
theorem State.doStop_eq (s : State) : s.doStop = { s with clockStarted := false, clockPaused := false } := rfl

@[simp] theorem State.doStop_transport (s : State) : s.doStop.transport = .stopped :=
  (transport_stopped_iff s.doStop).2 s.doStop_clockStarted

/-! ### The obligation -/

/-- Settles O39: the next state is `s.doStop`, Stopped because its started flag is reset, and `State.doStop_eq` is
its frame. -/
theorem stopResetsOnlyTheFlags : Obligations.StopResetsOnlyTheFlags := by
  refine ⟨encode_stop, portsOf_stop, fun s => ⟨s.doStop, exec_stop s, s.doStop_transport, s.doStop_clockStarted,
    s.doStop_clockPaused, ?frame⟩⟩
  case frame => rw [State.doStop_clockStarted, State.doStop_clockPaused, State.doStop_eq]

end Sys2Proof.Machine
end

section
/-! PROOFS. What each operation does, as a run of the eleven primitive operations: the rows of a case are the
operation they are a case of (log entry 7), the pseudo-operations are their expansion (30_encoding.md R106), the clock
edge is its sequence (45_top_level_step.md R232). -/

namespace Sys2Proof.Machine

/-! ### The operations with a meaning of one line -/

@[simp] theorem exec_reset (s : State) : exec .reset s = .next s.doReset := rfl
@[simp] theorem exec_tick (s : State) : exec .tick s = .next s.doTick := rfl
@[simp] theorem exec_start (s : State) : exec .start s = .next s.doStart := rfl
@[simp] theorem exec_pause (s : State) : exec .pause s = .next s.doPause := rfl
@[simp] theorem exec_resume (s : State) : exec .resume s = .next s.doResume := rfl
@[simp] theorem exec_txrdy (s : State) : exec .txrdy s = .next s.doTxrdy := rfl
@[simp] theorem exec_txpoll (s : State) : exec .txpoll s = .next s.doTxpoll := rfl
@[simp] theorem exec_inc (s : State) : exec .inc s = .next s.incTc := rfl
@[simp] theorem exec_cycle (i : CycleInputs) (s : State) : exec (.cycle i) s = .next (s.doCycle i) := rfl
@[simp] theorem exec_ticks (n : Nat) (s : State) : exec (.ticks n) s = .next (State.doTick^[n] s) := rfl
@[simp] theorem exec_frame (s : State) : exec .frame s = .next (State.doTick^[80] s) := rfl
@[simp] theorem exec_qf (k : BitVec 3) (n : Nibble) (s : State) : exec (.qf k n) s = .next (s.doQf k n) := rfl
@[simp] theorem exec_drain (s : State) : exec .drain s = .next (State.doTxrdy^[16] s) := rfl
@[simp] theorem exec_send (s : State) : exec .send s = .next (State.doTxrdy^[16] s.doTxpoll) := rfl

/-! ### The rows of a received byte -/

/-- `RX.DATA` is `RX` of its byte, in either phase. -/
@[simp] theorem exec_rxData (u n : Nibble) (s : State) :
    exec (.rxData u n) s = .next (s.doRx (dataByte u n)) := by
  change execRxData u n s = _
  unfold execRxData
  cases hp : s.rxPhase with
  | idle => rfl
  | data => simp only [State.doRx, hp, dataNibble_dataByte]

/-- `RX.IGNORE` is `RX` of its byte, in either phase. -/
@[simp] theorem exec_rxIgnore (b : Byte) (s : State) : exec (.rxIgnore b) s = .next (s.doRx b) := by
  change execRxIgnore b s = _
  unfold execRxIgnore
  cases hp : s.rxPhase with
  | idle =>
    cases hb : isTagByte b with
    | true => rfl
    | false => exact congrArg _ (doRx_ignored hp hb).symm
  | data => rfl

/-! ### The rows of a line slot -/

/-- A data slot with the bit of its cursor is the tick there. -/
theorem dataSlot_eq_doTick {s : State} {b : Bool} (hr : s.isRunning = true) (hc : s.cursor.val < 79)
    (hb : bitAt s.cursor.val s.tc = b) : s.dataSlot b = s.doTick := by
  rw [State.doTick, if_pos hr, if_neg hc.ne, hb]

@[simp] theorem exec_lineFrames (s : State) : exec .lineFrames s = .next s.doTick := by
  refine congrArg _ (ite_eq_right_iff.2 fun h => ?_)
  obtain ⟨hr, hc⟩ : s.isRunning = true ∧ s.cursor.val < 32 := by simpa using h
  exact dataSlot_eq_doTick hr (by omega) (if_pos hc)

@[simp] theorem exec_lineSeconds (s : State) : exec .lineSeconds s = .next s.doTick := by
  refine congrArg _ (ite_eq_right_iff.2 fun h => ?_)
  obtain ⟨hr, hl, hc⟩ : s.isRunning = true ∧ 32 ≤ s.cursor.val ∧ s.cursor.val < 40 := by simpa using h
  refine dataSlot_eq_doTick hr (by omega) ?_
  rw [bitAt, if_neg (by omega), if_pos hc]

@[simp] theorem exec_lineMinutes (s : State) : exec .lineMinutes s = .next s.doTick := by
  refine congrArg _ (ite_eq_right_iff.2 fun h => ?_)
  obtain ⟨hr, hl, hc⟩ : s.isRunning = true ∧ 40 ≤ s.cursor.val ∧ s.cursor.val < 48 := by simpa using h
  refine dataSlot_eq_doTick hr (by omega) ?_
  rw [bitAt, if_neg (by omega), if_neg (by omega), if_pos hc]

@[simp] theorem exec_lineHours (s : State) : exec .lineHours s = .next s.doTick := by
  refine congrArg _ (ite_eq_right_iff.2 fun h => ?_)
  obtain ⟨hr, hl, hc⟩ : s.isRunning = true ∧ 48 ≤ s.cursor.val ∧ s.cursor.val < 79 := by simpa using h
  refine dataSlot_eq_doTick hr hc ?_
  rw [bitAt, if_neg (by omega), if_neg (by omega), if_neg (by omega)]

@[simp] theorem exec_lineGround (s : State) : exec .lineGround s = .next s.doTick := by
  refine congrArg _ (ite_eq_right_iff.2 fun h => ?_)
  obtain ⟨hr, hc⟩ : s.isRunning = true ∧ s.cursor.val = 79 := by simpa using h
  rw [State.doTick, if_pos hr, if_pos hc]

/-! ### The rows of a transmitted byte -/

@[simp] theorem exec_txTag (s : State) : exec .txTag s = .next s.doTxrdy := by
  refine congrArg _ (ite_eq_right_iff.2 fun h => ?_)
  obtain ⟨hb, hi⟩ : s.txBusy = true ∧ isTagIndex s.txIdx = true := by simpa using h
  rw [State.doTxrdy, if_pos hb, txByte, if_pos hi]

@[simp] theorem exec_txData (s : State) : exec .txData s = .next s.doTxrdy := by
  refine congrArg _ (ite_eq_right_iff.2 fun h => ?_)
  obtain ⟨hb, hi⟩ : s.txBusy = true ∧ isTagIndex s.txIdx = false := by simpa using h
  rw [State.doTxrdy, if_pos hb, txByte, hi, if_neg Bool.false_ne_true]

/-! ### The primitive operations -/

/-- The nine external operations and the two internal ones (00_scope.md R5). -/
inductive Act where
  | reset
  | tick
  | rx (b : Byte)
  | start
  | stop
  | pause
  | resume
  | txrdy
  | txpoll
  | inc
  | setfrom (v : TimecodeValue)

/-- What a primitive operation does. -/
def Act.apply : Act → State → State
  | .reset => State.doReset
  | .tick => State.doTick
  | .rx b => State.doRx b
  | .start => State.doStart
  | .stop => State.doStop
  | .pause => State.doPause
  | .resume => State.doResume
  | .txrdy => State.doTxrdy
  | .txpoll => State.doTxpoll
  | .inc => State.incTc
  | .setfrom v => State.setFrom v

/-- Primitive operations performed in order. -/
def applyAll (as : List Act) (s : State) : State :=
  as.foldl (fun s a => a.apply s) s

/-- A primitive operation that is performed only if its strobe is 1. -/
def actIf (strobe : Bool) (a : Act) : List Act :=
  if strobe then [a] else []

/-- The sequence of one clock edge (45_top_level_step.md R232). -/
def cycleActs (i : CycleInputs) : List Act :=
  if i.rst then [.reset]
  else
    actIf i.start .start ++ actIf i.resume .resume ++ actIf i.pause .pause ++ actIf i.stop .stop ++
      actIf i.tick .tick ++ actIf i.rxValid (.rx i.rxData) ++ actIf i.txReady .txrdy ++ [.txpoll]

/-- The primitive operations of one quarter-frame message. -/
def qfActs (k : BitVec 3) (n : Nibble) : List Act :=
  [.rx (tagByte k), .rx (dataByte 0 n)]

/-- The primitive operations an instruction consists of. -/
def actsOf : Instr → List Act
  | .reset => [.reset]
  | .tick | .lineFrames | .lineSeconds | .lineMinutes | .lineHours | .lineGround => [.tick]
  | .rx b | .rxIgnore b => [.rx b]
  | .rxTag k => [.rx (tagByte k)]
  | .rxData u n => [.rx (dataByte u n)]
  | .start => [.start]
  | .stop => [.stop]
  | .pause => [.pause]
  | .resume => [.resume]
  | .txrdy | .txTag | .txData => [.txrdy]
  | .txpoll => [.txpoll]
  | .inc => [.inc]
  | .setfrom v => [.setfrom v]
  | .cycle i => cycleActs i
  | .ticks n => List.replicate n .tick
  | .frame => List.replicate 80 .tick
  | .qf k n => qfActs k n
  | .mtc h m s f => (messages ⟨h, m, s, f⟩).flatMap fun x => qfActs x.1 x.2
  | .drain => List.replicate 16 .txrdy
  | .send => .txpoll :: List.replicate 16 .txrdy

@[simp] theorem applyAll_nil (s : State) : applyAll [] s = s := rfl

@[simp] theorem applyAll_cons (a : Act) (as : List Act) (s : State) :
    applyAll (a :: as) s = applyAll as (a.apply s) := rfl

@[simp] theorem applyAll_append (as bs : List Act) (s : State) :
    applyAll (as ++ bs) s = applyAll bs (applyAll as s) :=
  List.foldl_append

@[simp] theorem applyAll_replicate (a : Act) (n : Nat) (s : State) :
    applyAll (List.replicate n a) s = a.apply^[n] s := by
  induction n generalizing s with
  | zero => rfl
  | succ n ih => exact ih (a.apply s)

@[simp] theorem applyAll_actIf (strobe : Bool) (a : Act) (s : State) :
    applyAll (actIf strobe a) s = onStrobe strobe a.apply s := by
  cases strobe <;> rfl

theorem applyAll_cycleActs (i : CycleInputs) (s : State) : applyAll (cycleActs i) s = s.doCycle i := by
  unfold cycleActs State.doCycle
  cases i.rst with
  | true => rfl
  | false => simp [Act.apply]

theorem applyAll_messages (l : List (BitVec 3 × Nibble)) (s : State) :
    applyAll (l.flatMap fun x => qfActs x.1 x.2) s = l.foldl (fun s x => s.doQf x.1 x.2) s :=
  List.foldl_flatMap

/-- Every instruction is the run of its primitive operations. -/
theorem exec_eq_applyAll (i : Instr) (s : State) : exec i s = .next (applyAll (actsOf i) s) := by
  cases i with
  | cycle i => exact congrArg Host.Outcome.next (applyAll_cycleActs i s).symm
  | ticks n => exact congrArg Host.Outcome.next (applyAll_replicate .tick n s).symm
  | frame => exact congrArg Host.Outcome.next (applyAll_replicate .tick 80 s).symm
  | mtc h m sec f => exact congrArg Host.Outcome.next (applyAll_messages _ s).symm
  | drain => exact congrArg Host.Outcome.next (applyAll_replicate .txrdy 16 s).symm
  | send => exact congrArg Host.Outcome.next (applyAll_replicate .txrdy 16 s.doTxpoll).symm
  | rxTag k => exact exec_rxTag k s
  | rxData u n => exact exec_rxData u n s
  | rxIgnore b => exact exec_rxIgnore b s
  | lineFrames => exact exec_lineFrames s
  | lineSeconds => exact exec_lineSeconds s
  | lineMinutes => exact exec_lineMinutes s
  | lineHours => exact exec_lineHours s
  | lineGround => exact exec_lineGround s
  | txTag => exact exec_txTag s
  | txData => exact exec_txData s
  | _ => rfl

/-- What every primitive operation keeps of two runs side by side, every list of them keeps. -/
theorem applyAll_rel {R : State → State → Prop}
    (h : ∀ (a : Act) (s s' : State), R s s' → R (a.apply s) (a.apply s')) :
    ∀ (as : List Act) {s s' : State}, R s s' → R (applyAll as s) (applyAll as s')
  | [], _, _, hs => hs
  | a :: as, s, s', hs => applyAll_rel h as (h a s s' hs)

/-- What every primitive operation keeps, every list of them keeps. -/
theorem applyAll_keeps {P : State → Prop} (h : ∀ (a : Act) (s : State), P s → P (a.apply s)) (as : List Act)
    {s : State} (hs : P s) : P (applyAll as s) :=
  applyAll_rel (R := fun s _ => P s) (fun a s _ => h a s) as (s' := s) hs

/-! ### Decoded stimuli and external operations -/

/-- The external operations are the nine with an event word (30_encoding.md R92). -/
theorem external_cases {i : Instr} (h : IsExternal i) :
    i = .reset ∨ i = .tick ∨ (∃ b, i = .rx b) ∨ i = .start ∨ i = .stop ∨ i = .pause ∨ i = .resume ∨
      i = .txrdy ∨ i = .txpoll := by
  cases i with
  | reset | tick | rx b | start | stop | pause | resume | txrdy | txpoll => simp
  | _ => cases h

end Sys2Proof.Machine
end

section
/-! PROOFS. The frame of every primitive operation that has cases: which fields it may write, and one lemma for each
field it leaves unchanged. -/

namespace Sys2Proof.Machine

/-! ### `TICK` -/

/-- A tick writes the counter, the cursor, the line and the frame-complete flag. -/
theorem State.doTick_frame (s : State) :
    s.doTick = { s with tc := s.doTick.tc, cursor := s.doTick.cursor, level := s.doTick.level
                        lineTrace := s.doTick.lineTrace, txPending := s.doTick.txPending } := by
  rcases doTick_cases s with ⟨-, h⟩ | ⟨-, -, h⟩ | ⟨-, c, -, h⟩ <;> rw [h]

@[simp] theorem State.doTick_slot (s : State) : s.doTick.slot = s.slot :=
  (congrArg State.slot s.doTick_frame :)
@[simp] theorem State.doTick_rxPhase (s : State) : s.doTick.rxPhase = s.rxPhase :=
  (congrArg State.rxPhase s.doTick_frame :)
@[simp] theorem State.doTick_rxSlot (s : State) : s.doTick.rxSlot = s.rxSlot :=
  (congrArg State.rxSlot s.doTick_frame :)
@[simp] theorem State.doTick_clockStarted (s : State) : s.doTick.clockStarted = s.clockStarted :=
  (congrArg State.clockStarted s.doTick_frame :)
@[simp] theorem State.doTick_clockPaused (s : State) : s.doTick.clockPaused = s.clockPaused :=
  (congrArg State.clockPaused s.doTick_frame :)
@[simp] theorem State.doTick_txBusy (s : State) : s.doTick.txBusy = s.txBusy :=
  (congrArg State.txBusy s.doTick_frame :)
@[simp] theorem State.doTick_txIdx (s : State) : s.doTick.txIdx = s.txIdx :=
  (congrArg State.txIdx s.doTick_frame :)
@[simp] theorem State.doTick_txLatch (s : State) : s.doTick.txLatch = s.txLatch :=
  (congrArg State.txLatch s.doTick_frame :)
@[simp] theorem State.doTick_txTrace (s : State) : s.doTick.txTrace = s.txTrace :=
  (congrArg State.txTrace s.doTick_frame :)
@[simp] theorem State.doTick_config (s : State) : s.doTick.config = s.config :=
  (congrArg State.config s.doTick_frame :)
@[simp] theorem State.doTick_pending (s : State) : s.doTick.pending = s.pending :=
  (congrArg State.pending s.doTick_frame :)

/-! ### `RX` -/

/-- A received byte writes the receiver's registers, and at a reassembly the counter and the transport flags. -/
theorem State.doRx_frame (b : Byte) (s : State) :
    s.doRx b = { s with tc := (s.doRx b).tc, slot := (s.doRx b).slot, rxPhase := (s.doRx b).rxPhase
                        rxSlot := (s.doRx b).rxSlot, clockStarted := (s.doRx b).clockStarted
                        clockPaused := (s.doRx b).clockPaused } := by
  rcases doRx_cases s b with ⟨-, -, h⟩ | ⟨-, -, h⟩ | ⟨-, -, h⟩ | ⟨-, -, h⟩ <;> rw [h]

@[simp] theorem State.doRx_cursor (b : Byte) (s : State) : (s.doRx b).cursor = s.cursor :=
  (congrArg State.cursor (s.doRx_frame b) :)
@[simp] theorem State.doRx_level (b : Byte) (s : State) : (s.doRx b).level = s.level :=
  (congrArg State.level (s.doRx_frame b) :)
@[simp] theorem State.doRx_txPending (b : Byte) (s : State) : (s.doRx b).txPending = s.txPending :=
  (congrArg State.txPending (s.doRx_frame b) :)
@[simp] theorem State.doRx_txBusy (b : Byte) (s : State) : (s.doRx b).txBusy = s.txBusy :=
  (congrArg State.txBusy (s.doRx_frame b) :)
@[simp] theorem State.doRx_txIdx (b : Byte) (s : State) : (s.doRx b).txIdx = s.txIdx :=
  (congrArg State.txIdx (s.doRx_frame b) :)
@[simp] theorem State.doRx_txLatch (b : Byte) (s : State) : (s.doRx b).txLatch = s.txLatch :=
  (congrArg State.txLatch (s.doRx_frame b) :)
@[simp] theorem State.doRx_lineTrace (b : Byte) (s : State) : (s.doRx b).lineTrace = s.lineTrace :=
  (congrArg State.lineTrace (s.doRx_frame b) :)
@[simp] theorem State.doRx_txTrace (b : Byte) (s : State) : (s.doRx b).txTrace = s.txTrace :=
  (congrArg State.txTrace (s.doRx_frame b) :)
@[simp] theorem State.doRx_config (b : Byte) (s : State) : (s.doRx b).config = s.config :=
  (congrArg State.config (s.doRx_frame b) :)
@[simp] theorem State.doRx_pending (b : Byte) (s : State) : (s.doRx b).pending = s.pending :=
  (congrArg State.pending (s.doRx_frame b) :)

/-- Without a reassembly a received byte writes the receiver's registers only. -/
theorem State.doRx_frame_of_not_awaits {s : State} (b : Byte) (h : ¬ s.AwaitsSlotSeven) :
    s.doRx b = { s with slot := (s.doRx b).slot, rxPhase := (s.doRx b).rxPhase, rxSlot := (s.doRx b).rxSlot } := by
  rcases doRx_cases s b with ⟨-, -, hb⟩ | ⟨-, -, hb⟩ | ⟨-, -, hb⟩ | ⟨hp, hk, -⟩
  · rw [hb]
  · rw [hb]
  · rw [hb]
  · exact absurd ⟨hp, hk⟩ h

/-! ### `PAUSE` and `RESUME` -/

/-- `PAUSE` writes one flag. -/
theorem State.doPause_frame (s : State) : s.doPause = { s with clockPaused := s.doPause.clockPaused } := by
  rcases doPause_cases s with ⟨-, h⟩ | ⟨-, h⟩ <;> rw [h]

@[simp] theorem State.doPause_tc (s : State) : s.doPause.tc = s.tc :=
  (congrArg State.tc s.doPause_frame :)
@[simp] theorem State.doPause_cursor (s : State) : s.doPause.cursor = s.cursor :=
  (congrArg State.cursor s.doPause_frame :)
@[simp] theorem State.doPause_level (s : State) : s.doPause.level = s.level :=
  (congrArg State.level s.doPause_frame :)
@[simp] theorem State.doPause_slot (s : State) : s.doPause.slot = s.slot :=
  (congrArg State.slot s.doPause_frame :)
@[simp] theorem State.doPause_rxPhase (s : State) : s.doPause.rxPhase = s.rxPhase :=
  (congrArg State.rxPhase s.doPause_frame :)
@[simp] theorem State.doPause_rxSlot (s : State) : s.doPause.rxSlot = s.rxSlot :=
  (congrArg State.rxSlot s.doPause_frame :)
@[simp] theorem State.doPause_clockStarted (s : State) : s.doPause.clockStarted = s.clockStarted :=
  (congrArg State.clockStarted s.doPause_frame :)
@[simp] theorem State.doPause_txPending (s : State) : s.doPause.txPending = s.txPending :=
  (congrArg State.txPending s.doPause_frame :)
@[simp] theorem State.doPause_txBusy (s : State) : s.doPause.txBusy = s.txBusy :=
  (congrArg State.txBusy s.doPause_frame :)
@[simp] theorem State.doPause_txIdx (s : State) : s.doPause.txIdx = s.txIdx :=
  (congrArg State.txIdx s.doPause_frame :)
@[simp] theorem State.doPause_txLatch (s : State) : s.doPause.txLatch = s.txLatch :=
  (congrArg State.txLatch s.doPause_frame :)
@[simp] theorem State.doPause_lineTrace (s : State) : s.doPause.lineTrace = s.lineTrace :=
  (congrArg State.lineTrace s.doPause_frame :)
@[simp] theorem State.doPause_txTrace (s : State) : s.doPause.txTrace = s.txTrace :=
  (congrArg State.txTrace s.doPause_frame :)
@[simp] theorem State.doPause_config (s : State) : s.doPause.config = s.config :=
  (congrArg State.config s.doPause_frame :)
@[simp] theorem State.doPause_pending (s : State) : s.doPause.pending = s.pending :=
  (congrArg State.pending s.doPause_frame :)

/-- `RESUME` writes one flag. -/
theorem State.doResume_frame (s : State) : s.doResume = { s with clockPaused := s.doResume.clockPaused } := by
  rcases doResume_cases s with ⟨-, -, h⟩ | ⟨-, h⟩ <;> rw [h]

@[simp] theorem State.doResume_tc (s : State) : s.doResume.tc = s.tc :=
  (congrArg State.tc s.doResume_frame :)
@[simp] theorem State.doResume_cursor (s : State) : s.doResume.cursor = s.cursor :=
  (congrArg State.cursor s.doResume_frame :)
@[simp] theorem State.doResume_level (s : State) : s.doResume.level = s.level :=
  (congrArg State.level s.doResume_frame :)
@[simp] theorem State.doResume_slot (s : State) : s.doResume.slot = s.slot :=
  (congrArg State.slot s.doResume_frame :)
@[simp] theorem State.doResume_rxPhase (s : State) : s.doResume.rxPhase = s.rxPhase :=
  (congrArg State.rxPhase s.doResume_frame :)
@[simp] theorem State.doResume_rxSlot (s : State) : s.doResume.rxSlot = s.rxSlot :=
  (congrArg State.rxSlot s.doResume_frame :)
@[simp] theorem State.doResume_clockStarted (s : State) : s.doResume.clockStarted = s.clockStarted :=
  (congrArg State.clockStarted s.doResume_frame :)
@[simp] theorem State.doResume_txPending (s : State) : s.doResume.txPending = s.txPending :=
  (congrArg State.txPending s.doResume_frame :)
@[simp] theorem State.doResume_txBusy (s : State) : s.doResume.txBusy = s.txBusy :=
  (congrArg State.txBusy s.doResume_frame :)
@[simp] theorem State.doResume_txIdx (s : State) : s.doResume.txIdx = s.txIdx :=
  (congrArg State.txIdx s.doResume_frame :)
@[simp] theorem State.doResume_txLatch (s : State) : s.doResume.txLatch = s.txLatch :=
  (congrArg State.txLatch s.doResume_frame :)
@[simp] theorem State.doResume_lineTrace (s : State) : s.doResume.lineTrace = s.lineTrace :=
  (congrArg State.lineTrace s.doResume_frame :)
@[simp] theorem State.doResume_txTrace (s : State) : s.doResume.txTrace = s.txTrace :=
  (congrArg State.txTrace s.doResume_frame :)
@[simp] theorem State.doResume_config (s : State) : s.doResume.config = s.config :=
  (congrArg State.config s.doResume_frame :)
@[simp] theorem State.doResume_pending (s : State) : s.doResume.pending = s.pending :=
  (congrArg State.pending s.doResume_frame :)

/-! ### `TXRDY` and `TXPOLL` -/

/-- Everything an acceptance can do. -/
theorem doTxrdy_cases (s : State) :
    (s.txBusy = false ∧ s.doTxrdy = s) ∨
    (s.txBusy = true ∧ s.txIdx = 15 ∧
      s.doTxrdy = { s with txTrace := s.txTrace ++ [txByte 15 s.txLatch], txBusy := false }) ∨
    (s.txBusy = true ∧ s.txIdx ≠ 15 ∧
      s.doTxrdy =
        { s with txTrace := s.txTrace ++ [txByte s.txIdx s.txLatch], txIdx := s.txIdx + 1 }) := by
  by_cases hb : s.txBusy = true
  · by_cases hi : s.txIdx = 15
    · exact .inr (.inl ⟨hb, hi, doTxrdy_last hb hi⟩)
    · exact .inr (.inr ⟨hb, hi, doTxrdy_next hb hi⟩)
  · rw [Bool.not_eq_true] at hb
    exact .inl ⟨hb, doTxrdy_idle hb⟩

/-- An acceptance writes the serial output and the progress of the transfer. -/
theorem State.doTxrdy_frame (s : State) :
    s.doTxrdy = { s with txTrace := s.doTxrdy.txTrace, txBusy := s.doTxrdy.txBusy, txIdx := s.doTxrdy.txIdx } := by
  rcases doTxrdy_cases s with ⟨-, h⟩ | ⟨-, -, h⟩ | ⟨-, -, h⟩ <;> rw [h]

@[simp] theorem State.doTxrdy_tc (s : State) : s.doTxrdy.tc = s.tc :=
  (congrArg State.tc s.doTxrdy_frame :)
@[simp] theorem State.doTxrdy_cursor (s : State) : s.doTxrdy.cursor = s.cursor :=
  (congrArg State.cursor s.doTxrdy_frame :)
@[simp] theorem State.doTxrdy_level (s : State) : s.doTxrdy.level = s.level :=
  (congrArg State.level s.doTxrdy_frame :)
@[simp] theorem State.doTxrdy_slot (s : State) : s.doTxrdy.slot = s.slot :=
  (congrArg State.slot s.doTxrdy_frame :)
@[simp] theorem State.doTxrdy_rxPhase (s : State) : s.doTxrdy.rxPhase = s.rxPhase :=
  (congrArg State.rxPhase s.doTxrdy_frame :)
@[simp] theorem State.doTxrdy_rxSlot (s : State) : s.doTxrdy.rxSlot = s.rxSlot :=
  (congrArg State.rxSlot s.doTxrdy_frame :)
@[simp] theorem State.doTxrdy_clockStarted (s : State) : s.doTxrdy.clockStarted = s.clockStarted :=
  (congrArg State.clockStarted s.doTxrdy_frame :)
@[simp] theorem State.doTxrdy_clockPaused (s : State) : s.doTxrdy.clockPaused = s.clockPaused :=
  (congrArg State.clockPaused s.doTxrdy_frame :)
@[simp] theorem State.doTxrdy_txPending (s : State) : s.doTxrdy.txPending = s.txPending :=
  (congrArg State.txPending s.doTxrdy_frame :)
@[simp] theorem State.doTxrdy_txLatch (s : State) : s.doTxrdy.txLatch = s.txLatch :=
  (congrArg State.txLatch s.doTxrdy_frame :)
@[simp] theorem State.doTxrdy_lineTrace (s : State) : s.doTxrdy.lineTrace = s.lineTrace :=
  (congrArg State.lineTrace s.doTxrdy_frame :)
@[simp] theorem State.doTxrdy_config (s : State) : s.doTxrdy.config = s.config :=
  (congrArg State.config s.doTxrdy_frame :)
@[simp] theorem State.doTxrdy_pending (s : State) : s.doTxrdy.pending = s.pending :=
  (congrArg State.pending s.doTxrdy_frame :)

/-- A poll writes the frame-complete flag and the registers of the transfer. -/
theorem State.doTxpoll_frame (s : State) :
    s.doTxpoll = { s with txPending := s.doTxpoll.txPending, txBusy := s.doTxpoll.txBusy
                          txIdx := s.doTxpoll.txIdx, txLatch := s.doTxpoll.txLatch } := by
  rcases doTxpoll_cases s with ⟨-, -, -, -, h⟩ | ⟨-, -, -, h⟩ | ⟨-, h⟩ <;> rw [h]

@[simp] theorem State.doTxpoll_tc (s : State) : s.doTxpoll.tc = s.tc :=
  (congrArg State.tc s.doTxpoll_frame :)
@[simp] theorem State.doTxpoll_cursor (s : State) : s.doTxpoll.cursor = s.cursor :=
  (congrArg State.cursor s.doTxpoll_frame :)
@[simp] theorem State.doTxpoll_level (s : State) : s.doTxpoll.level = s.level :=
  (congrArg State.level s.doTxpoll_frame :)
@[simp] theorem State.doTxpoll_slot (s : State) : s.doTxpoll.slot = s.slot :=
  (congrArg State.slot s.doTxpoll_frame :)
@[simp] theorem State.doTxpoll_rxPhase (s : State) : s.doTxpoll.rxPhase = s.rxPhase :=
  (congrArg State.rxPhase s.doTxpoll_frame :)
@[simp] theorem State.doTxpoll_rxSlot (s : State) : s.doTxpoll.rxSlot = s.rxSlot :=
  (congrArg State.rxSlot s.doTxpoll_frame :)
@[simp] theorem State.doTxpoll_clockStarted (s : State) : s.doTxpoll.clockStarted = s.clockStarted :=
  (congrArg State.clockStarted s.doTxpoll_frame :)
@[simp] theorem State.doTxpoll_clockPaused (s : State) : s.doTxpoll.clockPaused = s.clockPaused :=
  (congrArg State.clockPaused s.doTxpoll_frame :)
@[simp] theorem State.doTxpoll_lineTrace (s : State) : s.doTxpoll.lineTrace = s.lineTrace :=
  (congrArg State.lineTrace s.doTxpoll_frame :)
@[simp] theorem State.doTxpoll_txTrace (s : State) : s.doTxpoll.txTrace = s.txTrace :=
  (congrArg State.txTrace s.doTxpoll_frame :)
@[simp] theorem State.doTxpoll_config (s : State) : s.doTxpoll.config = s.config :=
  (congrArg State.config s.doTxpoll_frame :)
@[simp] theorem State.doTxpoll_pending (s : State) : s.doTxpoll.pending = s.pending :=
  (congrArg State.pending s.doTxpoll_frame :)

/-! ### What no operation writes -/

@[simp] theorem Act.apply_config (a : Act) (s : State) : (a.apply s).config = s.config := by
  cases a <;> simp [Act.apply]

@[simp] theorem Act.apply_pending (a : Act) (s : State) : (a.apply s).pending = s.pending := by
  cases a <;> simp [Act.apply]

/-! ### What the operations outside the transmitter neither read nor write -/

/-- Another list of pending stimuli and other registers of the transfer. -/
def State.withHidden (p : List Stimulus) (i : BitVec 4) (v : TimecodeValue) (s : State) : State :=
  { s with pending := p, txIdx := i, txLatch := v }

/-- The operations that read or write the registers of the transfer. -/
def Act.ofTransfer : Act → Bool
  | .reset | .txrdy | .txpoll => true
  | _ => false

theorem Act.apply_withHidden {a : Act} (ha : a.ofTransfer = false) (p : List Stimulus) (i : BitVec 4)
    (v : TimecodeValue) (s : State) : a.apply (s.withHidden p i v) = (a.apply s).withHidden p i v := by
  cases a with
  | tick => simp only [Act.apply, State.doTick, apply_ite (State.withHidden p i v)]; rfl
  | rx b =>
    have same : (s.withHidden p i v).rxPhase = s.rxPhase := rfl
    change (s.withHidden p i v).doRx b = (s.doRx b).withHidden p i v
    unfold State.doRx
    rw [same]
    cases hp : s.rxPhase with
    | idle => simp only [apply_ite (State.withHidden p i v)]; rfl
    | data => simp only [State.receiveData, apply_ite (State.withHidden p i v)]; rfl
  | pause => simp only [Act.apply, State.doPause, apply_ite (State.withHidden p i v)]; rfl
  | resume => simp only [Act.apply, State.doResume, apply_ite (State.withHidden p i v)]; rfl
  | reset | txrdy | txpoll => cases ha
  | _ => rfl

end Sys2Proof.Machine
end

section
/-! PROOFS. The step, reset and totality (00_scope.md R4, 60_exceptions.md R250, 45_top_level_step.md R233). -/

namespace Sys2Proof.Machine

/-- Settles O1: the branches of `step`, taken one after the other. -/
theorem stepPerformsTheFirstPendingOperation : Obligations.StepPerformsTheFirstPendingOperation := by
  refine fun s => ⟨fun h => ?nothing, fun x rest h => ⟨fun i hi => ?performed, fun hn => ?refused⟩⟩
  case nothing => simp only [step, h]
  case performed => simp only [step, h, hi]
  case refused => simp only [step, h, hn]

/-- Settles O2: every operation is a run of primitive operations, none of which writes the two fields. -/
theorem everyOperationCompletes : Obligations.EveryOperationCompletes := by
  intro i s
  have kept : ∀ (a : Act) (u : State), u.config = s.config ∧ u.pending = s.pending →
      (a.apply u).config = s.config ∧ (a.apply u).pending = s.pending := by
    intro a u hu
    rwa [Act.apply_config, Act.apply_pending]
  exact ⟨_, exec_eq_applyAll i s, applyAll_keeps kept (actsOf i) ⟨rfl, rfl⟩⟩

/-- Settles O3: `RESET` writes the values of 10_state.md R36; the replicated slots are the eight zeros. -/
theorem resetRestoresEveryRegister : Obligations.ResetRestoresEveryRegister := by
  intro s
  rw [exec_reset, State.doReset, State.reset]
  rfl

end Sys2Proof.Machine
end

section
/-! PROOFS. The encoding: event words and serial bytes decode to what they were encoded from and back
(30_encoding.md R91 to R96), and the loader refuses the reserved words (R93). -/

namespace Sys2Proof.Machine

/-! ### The fields of an event word -/

theorem eventKind_append_eventPayload (w : EventWord) : eventKind w ++ eventPayload w = w := by
  rw [eventKind, eventPayload, BitVec.extractLsb'_append_extractLsb'_eq_extractLsb' (by decide)]
  exact BitVec.extractLsb'_eq_self

theorem eventKind_toNat (w : EventWord) : (eventKind w).toNat = w.toNat / 256 := by
  rw [eventKind, BitVec.extractLsb'_toNat, Nat.shiftRight_eq_div_pow]
  have := w.isLt
  omega

theorem eventPayload_toNat (w : EventWord) : (eventPayload w).toNat = w.toNat % 256 := by
  rw [eventPayload, BitVec.extractLsb'_toNat, Nat.shiftRight_zero]

/-! ### Event words -/

theorem decodeWord_toNat (w : EventWord) : decodeWord w.toNat = decodeEvent w := by
  rw [decodeWord, if_pos w.isLt, BitVec.ofNat_toNat, BitVec.setWidth_eq]

/-- A number that decodes is the word it is read as. -/
theorem decodeWord_eq_some {n : Nat} {i : Instr} (h : decodeWord n = some i) :
    ∃ w : EventWord, w.toNat = n ∧ decodeEvent w = some i := by
  by_cases hn : n < 4096
  · rw [decodeWord, if_pos hn] at h
    exact ⟨_, BitVec.toNat_ofNat n 12 ▸ Nat.mod_eq_of_lt hn, h⟩
  · rw [decodeWord, if_neg hn] at h
    cases h

/-- The assigned kinds with a zero payload, each with its operation (30_encoding.md R92). -/
theorem encodeEvent_of_decodeKind : ∀ k : Nibble, ∀ i ∈ decodeKind k.toNat, encodeEvent i = some (k ++ (0 : Byte)) := by
  decide

theorem decodeKind_eq_none (k : Nat) : decodeKind k = none ↔ k = 2 ∨ 9 ≤ k := by
  match k with
  | 0 | 1 | 2 | 3 | 4 | 5 | 6 | 7 | 8 => simp [decodeKind]
  | k + 9 => simp [decodeKind]

theorem decodeEvent_of_encodeEvent {i : Instr} {w : EventWord} (h : encodeEvent i = some w) :
    decodeEvent w = some i := by
  have he : IsExternal i := by rw [IsExternal, h]; rfl
  rcases external_cases he with rfl | rfl | ⟨b, rfl⟩ | rfl | rfl | rfl | rfl | rfl | rfl <;>
    obtain rfl := Option.some.inj h
  case inr.inr.inl => exact decodeEvent_rxWord b
  all_goals rfl

theorem encodeEvent_of_decodeEvent {i : Instr} {w : EventWord} (h : decodeEvent w = some i) :
    encodeEvent i = some w := by
  unfold decodeEvent at h
  split_ifs at h with hk hp
  · obtain rfl := Option.some.inj h
    change some ((2 : Nibble) ++ eventPayload w) = some w
    rw [← hk, eventKind_append_eventPayload]
  · rw [encodeEvent_of_decodeKind _ i h, ← hp, eventKind_append_eventPayload]

theorem decodeEvent_eq_none (w : EventWord) :
    decodeEvent w = none ↔ 9 ≤ w.toNat / 256 ∨ (w.toNat / 256 ≠ 2 ∧ w.toNat % 256 ≠ 0) := by
  have hk : eventKind w = 2 ↔ w.toNat / 256 = 2 := by rw [← BitVec.toNat_inj, eventKind_toNat]; rfl
  have hp : eventPayload w = 0 ↔ w.toNat % 256 = 0 := by rw [← BitVec.toNat_inj, eventPayload_toNat]; rfl
  unfold decodeEvent
  split_ifs with h2 h0
  · rw [hk] at h2
    simp [h2]
  · rw [hk] at h2
    rw [hp] at h0
    rw [decodeKind_eq_none, eventKind_toNat]
    omega
  · rw [hk] at h2
    rw [hp] at h0
    simp [h2, h0]

/-! ### Serial bytes -/

theorem decodeSerial_of_encodeSerial {i : Instr} {b : Byte} {p : RxPhase} (hw : i.wellFormed = true)
    (hp : i.appliesIn p = true) (h : encodeSerial i = some b) : decodeSerial p b = i := by
  cases i with
  | rxTag k =>
    obtain rfl := Option.some.inj h
    obtain rfl : p = .idle := beq_iff_eq.1 hp
    rw [decodeSerial, if_pos (isTagByte_tagByte k), tagSlot_tagByte]
  | rxData u n =>
    obtain rfl := Option.some.inj h
    obtain rfl : p = .data := beq_iff_eq.1 hp
    rw [decodeSerial, unusedNibble_dataByte, dataNibble_dataByte]
  | rxIgnore c =>
    obtain rfl := Option.some.inj h
    obtain rfl : p = .idle := beq_iff_eq.1 hp
    have hc : isTagByte c = false := by simpa [Instr.wellFormed] using hw
    rw [decodeSerial, hc, if_neg Bool.false_ne_true]
  | _ => cases h

/-- What a byte decodes to in phase `p` is a received-byte row of that phase, written as that byte. -/
theorem decodeSerial_spec (p : RxPhase) (b : Byte) :
    (decodeSerial p b).wellFormed = true ∧ (decodeSerial p b).appliesIn p = true ∧
      encode (decodeSerial p b) = some (.byte b) := by
  cases p with
  | idle =>
    cases hb : isTagByte b with
    | true =>
      rw [decodeSerial, if_pos hb]
      exact ⟨rfl, rfl, congrArg (some ∘ Stimulus.byte) (tagByte_tagSlot hb)⟩
    | false =>
      rw [decodeSerial, hb, if_neg Bool.false_ne_true]
      exact ⟨by rw [Instr.wellFormed, hb]; rfl, rfl, rfl⟩
  | data => exact ⟨rfl, rfl, congrArg (some ∘ Stimulus.byte) (dataByte_eta b)⟩

/-! ### Stimuli -/

/-- An instruction is written as a clock edge, as its event word or as its serial byte. -/
theorem encode_cases {i : Instr} {x : Stimulus} (h : encode i = some x) :
    (∃ c, i = .cycle c ∧ x = .edge c) ∨ (∃ w, encodeEvent i = some w ∧ x = .word w.toNat) ∨
      (∃ b, encodeSerial i = some b ∧ x = .byte b) := by
  unfold encode at h
  split at h
  · exact .inl ⟨_, rfl, (Option.some.inj h).symm⟩
  · split at h
    · exact .inr (.inl ⟨_, ‹_›, (Option.some.inj h).symm⟩)
    · obtain ⟨b, hb, rfl⟩ := Option.map_eq_some_iff.1 h
      exact .inr (.inr ⟨b, hb, rfl⟩)

/-- An external operation is well-formed, applies in both phases and is written as its event word. -/
theorem encode_of_encodeEvent {i : Instr} {w : EventWord} (p : RxPhase) (h : encodeEvent i = some w) :
    i.wellFormed = true ∧ i.appliesIn p = true ∧ encode i = some (.word w.toNat) := by
  have he : IsExternal i := by rw [IsExternal, h]; rfl
  rcases external_cases he with rfl | rfl | ⟨b, rfl⟩ | rfl | rfl | rfl | rfl | rfl | rfl <;>
    obtain rfl := Option.some.inj h <;> exact ⟨rfl, rfl, rfl⟩

/-! ### The obligations -/

/-- Settles O51: the three ways in which an instruction can be written, each with the decoder that reads it. -/
theorem decodeOfEncode : Obligations.DecodeOfEncode := by
  intro i p x hw hp h
  rcases encode_cases h with ⟨c, rfl, rfl⟩ | ⟨w, hw', rfl⟩ | ⟨b, hb, rfl⟩
  · rfl
  · rw [decodeStimulus, decodeWord_toNat, decodeEvent_of_encodeEvent hw']
  · rw [decodeStimulus, decodeSerial_of_encodeSerial hw hp hb]

/-- Settles O52: the three kinds of stimulus, each with the encoder that writes it. -/
theorem encodeOfDecode : Obligations.EncodeOfDecode := by
  intro i p x h
  cases x with
  | word n =>
    obtain ⟨w, rfl, hw⟩ := decodeWord_eq_some h
    exact encode_of_encodeEvent p (encodeEvent_of_decodeEvent hw)
  | byte b =>
    obtain rfl := Option.some.inj h
    exact decodeSerial_spec p b
  | edge c =>
    obtain rfl := Option.some.inj h
    exact ⟨rfl, rfl, rfl⟩

/-- Settles O53: below 4096 a number is its word, whose kind and payload are the quotient and the remainder by
256. -/
theorem reservedWordsAreRefused : Obligations.ReservedWordsAreRefused := by
  intro n
  by_cases hn : n < 4096
  · have hw : (BitVec.ofNat 12 n).toNat = n := BitVec.toNat_ofNat n 12 ▸ Nat.mod_eq_of_lt hn
    rw [decodeWord, if_pos hn, decodeEvent_eq_none, hw]
    omega
  · rw [decodeWord, if_neg hn]
    simp [Nat.not_lt.1 hn]

/-- Settles O54: the vectors, evaluated. -/
theorem specWordsDecode : Obligations.SpecWordsDecode := by
  unfold Obligations.SpecWordsDecode
  decide

/-! ### The loader -/

/-- Entries that decode are passed over, each one a position further. -/
theorem firstReserved_append {before : List Stimulus} (h : ∀ y ∈ before, decodeStimulus .idle y ≠ none)
    (n : Nat) (after : List Stimulus) :
    firstReserved n (before ++ after) = firstReserved (n + before.length) after := by
  induction before generalizing n with
  | nil => rfl
  | cons y ys ih =>
    obtain ⟨i, hi⟩ := Option.ne_none_iff_exists'.1 (h y List.mem_cons_self)
    rw [List.cons_append, firstReserved, hi]
    refine (ih (fun z hz => h z (List.mem_cons_of_mem y hz)) (n + 1)).trans ?_
    rw [List.length_cons, Nat.add_assoc, Nat.add_comm 1]

/-- Settles O55: the entries before the reserved one are passed over; with none reserved, all of them are. -/
theorem loaderRefusesReservedEntries : Obligations.LoaderRefusesReservedEntries := by
  intro c before after x h
  refine ⟨fun hx => ?reserved, ?loaded⟩
  case reserved =>
    have hr : firstReserved 0 (before ++ x :: after) = some (.reservedWord x before.length) := by
      rw [firstReserved_append h, firstReserved, hx, Nat.zero_add]
    rw [State.load, hr]
  case loaded =>
    have hn : firstReserved 0 before = none := by
      simpa [firstReserved] using firstReserved_append h 0 []
    rw [State.load, hn]

end Sys2Proof.Machine
end

section
/-! PROOFS. timecode_counter: `INC` from every value, and its laws on valid ones (40_timecode_counter.md R130, R134). -/

namespace Sys2Proof.Machine

/-! ### Valid values -/

theorem number_lt {r : FrameRate} {v : TimecodeValue} (h : v.Valid r) : v.number r < 24 * 3600 * r.perSecond := by
  obtain ⟨hh, hm, hs, hf⟩ := h
  cases r <;> simp only [TimecodeValue.number, FrameRate.perSecond] at * <;> omega

/-- A valid value is fixed by its number. -/
theorem number_injective {r : FrameRate} {v w : TimecodeValue} (hv : v.Valid r) (hw : w.Valid r)
    (h : v.number r = w.number r) : v = w := by
  obtain ⟨hh, hm, hs, hf⟩ := hv
  obtain ⟨gh, gm, gs, gf⟩ := hw
  cases v; cases w
  simp only [TimecodeValue.mk.injEq, ← BitVec.toNat_inj]
  cases r <;> simp only [TimecodeValue.number, FrameRate.perSecond] at * <;> omega

theorem number_mod_perSecond {r : FrameRate} {v : TimecodeValue} (h : v.Valid r) :
    v.number r % r.perSecond = v.frames.toNat := by
  have hr : 0 < r.perSecond := by cases r <;> decide
  obtain ⟨-, -, -, hf⟩ := h
  rw [TimecodeValue.number, Nat.mul_add_mod', Nat.mod_eq_of_lt (by omega)]

/-- `INC` keeps validity (40_timecode_counter.md R134 (a)). -/
theorem valid_inc {r : FrameRate} {v : TimecodeValue} (h : v.Valid r) : (v.inc r.perSecond).Valid r := by
  have hr : 0 < r.perSecond := by cases r <;> decide
  obtain ⟨hh, hm, hs, hf⟩ := h
  obtain ⟨ef, es, em, eh⟩ := inc_toNat r v
  rw [TimecodeValue.Valid, ef, es, em, eh]
  refine ⟨?_, ?_, ?_, ?_⟩ <;> split_ifs <;> omega

/-- `INC` counts one frame modulo the day (R134 (b)). -/
theorem number_inc {r : FrameRate} {v : TimecodeValue} (h : v.Valid r) :
    (v.inc r.perSecond).number r = (v.number r + 1) % (24 * 3600 * r.perSecond) := by
  obtain ⟨hh, hm, hs, hf⟩ := h
  obtain ⟨ef, es, em, eh⟩ := inc_toNat r v
  rw [TimecodeValue.number, ef, es, em, eh, TimecodeValue.number]
  split_ifs <;> cases r <;> simp only [FrameRate.perSecond] at * <;> omega

/-! ### `n` increments -/

theorem valid_iterate_inc {r : FrameRate} {v : TimecodeValue} (h : v.Valid r) (n : Nat) :
    ((TimecodeValue.inc r.perSecond)^[n] v).Valid r :=
  Function.Iterate.rec (TimecodeValue.Valid r) h (fun _ => valid_inc) n

theorem number_iterate_inc {r : FrameRate} {v : TimecodeValue} (h : v.Valid r) (n : Nat) :
    ((TimecodeValue.inc r.perSecond)^[n] v).number r = (v.number r + n) % (24 * 3600 * r.perSecond) := by
  induction n with
  | zero => exact (Nat.mod_eq_of_lt (number_lt h)).symm
  | succ n ih =>
    rw [Function.iterate_succ_apply', number_inc (valid_iterate_inc h n), ih, Nat.mod_add_mod, Nat.add_assoc]

/-! ### The obligations -/

/-- Settles O6, by the four fields of `inc_toNat`. -/
theorem incrementFieldByField : Obligations.IncrementFieldByField := by
  intro s
  exact ⟨_, exec_inc s, inc_toNat s.config.fps s.tc⟩

/-- Settles O7. -/
theorem incrementCountsOneFrame : Obligations.IncrementCountsOneFrame := by
  intro s h
  exact ⟨_, exec_inc s, valid_inc h, number_inc h⟩

/-- Settles O8: both rates divide the day, so `fps` increments keep the number modulo `fps`, which is the frames
field, and a day of them keeps the number itself. -/
theorem incrementRunsThroughADay : Obligations.IncrementRunsThroughADay := by
  intro r v h
  refine ⟨number_iterate_inc h, ?frames, ?day⟩
  case frames =>
    rw [← BitVec.toNat_inj, ← number_mod_perSecond (valid_iterate_inc h _), number_iterate_inc h,
      Nat.mod_mul_left_mod, Nat.add_mod_right, number_mod_perSecond h]
  case day =>
    refine number_injective (valid_iterate_inc h _) h ?_
    rw [number_iterate_inc h, Nat.add_mod_right, Nat.mod_eq_of_lt (number_lt h)]

end Sys2Proof.Machine
end

section
/-! PROOFS. Stimuli performed one a step: the event words an operation stands for perform it (30_encoding.md section 5,
45_top_level_step.md section 3). -/

namespace Sys2Proof.Machine

/-! ### The pending operations do not matter to an operation -/

theorem Act.apply_txIdx {a : Act} (ha : a.ofTransfer = false) (s : State) : (a.apply s).txIdx = s.txIdx :=
  (congrArg State.txIdx (Act.apply_withHidden ha s.pending s.txIdx s.txLatch s) :)

theorem Act.apply_txLatch {a : Act} (ha : a.ofTransfer = false) (s : State) : (a.apply s).txLatch = s.txLatch :=
  (congrArg State.txLatch (Act.apply_withHidden ha s.pending s.txIdx s.txLatch s) :)

/-- The same state with other operations pending. -/
def State.withPending (p : List Stimulus) (s : State) : State :=
  { s with pending := p }

theorem Act.apply_withPending (a : Act) (p : List Stimulus) (s : State) :
    a.apply (s.withPending p) = (a.apply s).withPending p := by
  cases ha : a.ofTransfer with
  | false =>
    refine (Act.apply_withHidden ha p s.txIdx s.txLatch s).trans ?_
    rw [State.withHidden, ← Act.apply_txIdx ha, ← Act.apply_txLatch ha]
    rfl
  | true =>
    cases a with
    | reset => rfl
    | txrdy => simp only [Act.apply, State.doTxrdy, State.nextByte, apply_ite (State.withPending p)]; rfl
    | txpoll => simp only [Act.apply, State.doTxpoll, apply_ite (State.withPending p)]; rfl
    | _ => cases ha

theorem applyAll_withPending (p : List Stimulus) (as : List Act) (s : State) :
    applyAll as (s.withPending p) = (applyAll as s).withPending p :=
  applyAll_rel (R := fun u u' => u = u'.withPending p) (fun a _ u' hu => hu ▸ a.apply_withPending p u') as rfl

/-! ### Stimuli that perform given primitive operations -/

/-- The stimuli, taken one a step from any state, perform the operations. -/
def Plays (xs : List Stimulus) (as : List Act) : Prop :=
  ∀ (s : State) (rest : List Stimulus),
    stepTimes xs.length { s with pending := xs ++ rest } = .next (applyAll as { s with pending := rest })

theorem Plays.nil : Plays [] [] := fun _ _ => rfl

/-- One stimulus that decodes, in either phase, to one primitive operation. -/
theorem Plays.single {x : Stimulus} {a : Act} (h : ∀ p, ∃ i, decodeStimulus p x = some i ∧ actsOf i = [a]) :
    Plays [x] [a] := by
  intro s rest
  obtain ⟨i, hd, hi⟩ := h s.rxPhase
  refine stepTimes_cons hd ?_
  rw [exec_eq_applyAll, hi]
  rfl

theorem stepTimes_add {m : Nat} {s t : State} (h : stepTimes m s = .next t) (n : Nat) :
    stepTimes (m + n) s = stepTimes n t := by
  induction m generalizing s with
  | zero =>
    obtain rfl := Host.Outcome.next.inj h
    rw [Nat.zero_add]
  | succ m ih =>
    rw [Nat.succ_add, stepTimes]
    rw [stepTimes] at h
    cases hs : step s with
    | next u =>
      rw [hs] at h
      exact ih h
    | fault r => cases r
    | refused r =>
      rw [hs] at h
      cases h

theorem Plays.append {xs ys : List Stimulus} {as bs : List Act} (hx : Plays xs as) (hy : Plays ys bs) :
    Plays (xs ++ ys) (as ++ bs) := by
  intro s rest
  have first : stepTimes xs.length { s with pending := xs ++ ys ++ rest } =
      .next ((applyAll as { s with pending := rest }).withPending (ys ++ rest)) := by
    rw [List.append_assoc, hx, ← applyAll_withPending]
    rfl
  rw [List.length_append, stepTimes_add first, State.withPending, hy, applyAll_append]
  have kept := applyAll_withPending rest as { s with pending := rest }
  exact congrArg (fun u => Host.Outcome.next (applyAll bs u)) kept.symm

theorem Plays.flatMap {α : Type} {f : α → List Stimulus} {g : α → List Act} (h : ∀ x, Plays (f x) (g x)) :
    ∀ l : List α, Plays (l.flatMap f) (l.flatMap g)
  | [] => Plays.nil
  | x :: l => (h x).append (Plays.flatMap h l)

theorem Plays.replicate {x : Stimulus} {a : Act} (h : Plays [x] [a]) (n : Nat) :
    Plays (List.replicate n x) (List.replicate n a) := by
  induction n with
  | zero => exact Plays.nil
  | succ n ih => exact h.append ih

/-! ### Serial bytes and event words -/

/-- A received byte is performed as `RX`, whatever it decodes to. -/
theorem actsOf_decodeSerial (p : RxPhase) (b : Byte) : actsOf (decodeSerial p b) = [.rx b] := by
  unfold decodeSerial
  cases p with
  | idle =>
    cases hb : isTagByte b with
    | true => exact congrArg (fun c => [Act.rx c]) (tagByte_tagSlot hb)
    | false => rfl
  | data => exact congrArg (fun c => [Act.rx c]) (dataByte_eta b)

theorem plays_byte (b : Byte) : Plays [.byte b] [.rx b] :=
  Plays.single fun p => ⟨_, rfl, actsOf_decodeSerial p b⟩

/-- The event words, as entries of a trace. -/
def asStimuli (ws : List EventWord) : List Stimulus :=
  ws.map fun w => .word w.toNat

theorem plays_word {w : EventWord} {i : Instr} {a : Act} (hd : decodeEvent w = some i) (hi : actsOf i = [a]) :
    Plays (asStimuli [w]) [a] :=
  Plays.single fun _ => ⟨i, (decodeWord_toNat w).trans hd, hi⟩

theorem plays_tick : Plays (asStimuli [0x100]) [.tick] := plays_word rfl rfl
theorem plays_start : Plays (asStimuli [0x300]) [.start] := plays_word rfl rfl
theorem plays_stop : Plays (asStimuli [0x400]) [.stop] := plays_word rfl rfl
theorem plays_pause : Plays (asStimuli [0x500]) [.pause] := plays_word rfl rfl
theorem plays_resume : Plays (asStimuli [0x600]) [.resume] := plays_word rfl rfl
theorem plays_txrdy : Plays (asStimuli [0x700]) [.txrdy] := plays_word rfl rfl
theorem plays_txpoll : Plays (asStimuli [0x800]) [.txpoll] := plays_word rfl rfl

theorem plays_rxWord (b : Byte) : Plays (asStimuli [rxWord b]) [.rx b] :=
  plays_word (decodeEvent_rxWord b) rfl

theorem plays_wordIf (strobe : Bool) {w : EventWord} {a : Act} (h : Plays (asStimuli [w]) [a]) :
    Plays (asStimuli (wordIf strobe w)) (actIf strobe a) := by
  cases strobe
  · exact Plays.nil
  · exact h

theorem plays_append_words {ws vs : List EventWord} {as bs : List Act} (hw : Plays (asStimuli ws) as)
    (hv : Plays (asStimuli vs) bs) : Plays (asStimuli (ws ++ vs)) (as ++ bs) := by
  rw [asStimuli, List.map_append]
  exact hw.append hv

theorem plays_replicate_word (n : Nat) {w : EventWord} {a : Act} (h : Plays (asStimuli [w]) [a]) :
    Plays (asStimuli (List.replicate n w)) (List.replicate n a) := by
  rw [asStimuli, List.map_replicate]
  exact Plays.replicate h n

theorem plays_qfWords (k : BitVec 3) (n : Nibble) : Plays (asStimuli (qfWords k n)) (qfActs k n) :=
  (plays_rxWord (tagByte k)).append (plays_rxWord (dataByte 0 n))

theorem plays_messages (l : List (BitVec 3 × Nibble)) :
    Plays (asStimuli (l.flatMap fun x => qfWords x.1 x.2)) (l.flatMap fun x => qfActs x.1 x.2) := by
  have each : ∀ x : BitVec 3 × Nibble, Plays (asStimuli (qfWords x.1 x.2)) (qfActs x.1 x.2) :=
    fun x => plays_qfWords x.1 x.2
  rw [asStimuli, List.map_flatMap]
  exact Plays.flatMap each l

theorem plays_cycleWords (i : CycleInputs) : Plays (asStimuli (cycleWords i)) (cycleActs i) := by
  unfold cycleWords cycleActs
  cases i.rst with
  | true => exact plays_word rfl rfl
  | false =>
    refine plays_append_words (plays_append_words (plays_append_words (plays_append_words (plays_append_words
      (plays_append_words (plays_append_words ?start ?resume) ?pause) ?stop) ?tick) ?rx) ?txrdy) plays_txpoll
    case start => exact plays_wordIf i.start plays_start
    case resume => exact plays_wordIf i.resume plays_resume
    case pause => exact plays_wordIf i.pause plays_pause
    case stop => exact plays_wordIf i.stop plays_stop
    case tick => exact plays_wordIf i.tick plays_tick
    case rx => exact plays_wordIf i.rxValid (plays_rxWord i.rxData)
    case txrdy => exact plays_wordIf i.txReady plays_txrdy

/-- The words an operation stands for perform its primitive operations. -/
theorem plays_traceWords {i : Instr} {ws : List EventWord} (h : traceWords i = some ws) :
    Plays (asStimuli ws) (actsOf i) := by
  cases i with
  | txTag | txData | inc | setfrom _ | lineFrames | lineSeconds | lineMinutes | lineHours | lineGround => cases h
  | rx b | rxIgnore b =>
    obtain rfl := Option.some.inj h
    exact plays_rxWord b
  | rxTag k =>
    obtain rfl := Option.some.inj h
    exact plays_rxWord (tagByte k)
  | rxData u n =>
    obtain rfl := Option.some.inj h
    exact plays_rxWord (dataByte u n)
  | cycle c =>
    obtain rfl := Option.some.inj h
    exact plays_cycleWords c
  | ticks n =>
    obtain rfl := Option.some.inj h
    exact plays_replicate_word n plays_tick
  | frame =>
    obtain rfl := Option.some.inj h
    exact plays_replicate_word 80 plays_tick
  | qf k n =>
    obtain rfl := Option.some.inj h
    exact plays_qfWords k n
  | mtc hr m sec f =>
    obtain rfl := Option.some.inj h
    exact plays_messages (messages ⟨hr, m, sec, f⟩)
  | drain =>
    obtain rfl := Option.some.inj h
    exact plays_replicate_word 16 plays_txrdy
  | send =>
    obtain rfl := Option.some.inj h
    exact plays_append_words plays_txpoll (plays_replicate_word 16 plays_txrdy)
  | reset | tick | start | stop | pause | resume | txrdy | txpoll =>
    obtain rfl := Option.some.inj h
    exact plays_word rfl rfl

/-- Settles O43: words and operation perform the same primitive operations. -/
theorem traceWordsPerformTheOperation : Obligations.TraceWordsPerformTheOperation := by
  intro i words s rest h
  have played := plays_traceWords h s rest
  rw [asStimuli, List.length_map] at played
  rw [played, exec_eq_applyAll]

end Sys2Proof.Machine
end

section
/-! PROOFS. line_level_encoder: one tick, the rows of the line frame, and runs of ticks that reach the wrap
(41_line_level_encoder.md R150 to R155, 70_reset_and_hazards.md H2, H9). -/

namespace Sys2Proof.Machine

/-! ### The ranges of the line frame (30_encoding.md R102) -/

theorem expectedLevel_frames (v : TimecodeValue) {c : Nat} (h : c < 32) :
    expectedLevel v c = bitLevel v.frames.toNat (c % 4) :=
  if_pos h

theorem expectedLevel_seconds (v : TimecodeValue) {c : Nat} (hl : 32 ≤ c) (h : c < 40) :
    expectedLevel v c = bitLevel v.seconds.toNat (c - 32) := by
  rw [expectedLevel, if_neg (by omega), if_pos h]

theorem expectedLevel_minutes (v : TimecodeValue) {c : Nat} (hl : 40 ≤ c) (h : c < 48) :
    expectedLevel v c = bitLevel v.minutes.toNat (c - 40) := by
  rw [expectedLevel, if_neg (by omega), if_neg (by omega), if_pos h]

theorem expectedLevel_hours (v : TimecodeValue) {c : Nat} (hl : 48 ≤ c) (h : c < 79) :
    expectedLevel v c = bitLevel v.hours.toNat (c - 48) := by
  rw [expectedLevel, if_neg (by omega), if_neg (by omega), if_neg (by omega), if_pos h]

/-! ### One tick -/

/-- Settles O10: a running tick that has a next slot is one in a data slot. -/
theorem tickShowsOneBit : Obligations.TickShowsOneBit := by
  intro s c hr hc
  rw [exec_tick, doTick_data hr hc]

/-- Settles O11. -/
theorem tickAtSlotSeventyNineWraps : Obligations.TickAtSlotSeventyNineWraps := by
  intro s hr hc
  exact ⟨_, exec_inc s, by rw [exec_tick, doTick_wrap hr hc]⟩

/-- Settles O12: every one of the ticks is a tick while not Running. -/
theorem ticksWhileNotRunningOnlyGround : Obligations.TicksWhileNotRunningOnlyGround := by
  intro n s hr
  rw [exec_tick, exec_ticks, doTick_notRunning hr, iterate_doTick_notRunning n s hr]
  exact ⟨rfl, rfl⟩

/-! ### The rows of the line frame -/

/-- Settles O14: each row has been shown to be the tick. -/
theorem lineRowsAgreeWithTick : Obligations.LineRowsAgreeWithTick := by
  intro s
  exact ⟨s.doTick, exec_tick s, exec_lineFrames s, exec_lineSeconds s, exec_lineMinutes s, exec_lineHours s,
    exec_lineGround s⟩

/-- Settles O13: each row is a tick, whose level is that of the range its cursor lies in. -/
theorem lineRowsShowTheirField : Obligations.LineRowsShowTheirField := by
  intro s c hr
  refine ⟨fun h hc => ?frames, fun hl h hc => ?seconds, fun hl h hc => ?minutes, fun hl h hc => ?hours,
    fun h => ?ground⟩
  case frames => rw [exec_lineFrames, doTick_data hr hc, expectedLevel_frames _ h]
  case seconds => rw [exec_lineSeconds, doTick_data hr hc, expectedLevel_seconds _ hl h]
  case minutes => rw [exec_lineMinutes, doTick_data hr hc, expectedLevel_minutes _ hl h]
  case hours => rw [exec_lineHours, doTick_data hr hc, expectedLevel_hours _ hl h]
  case ground => exact ⟨_, exec_inc s, by rw [exec_lineGround, doTick_wrap hr h]⟩

/-! ### Runs of ticks while Running -/

/-- The levels of `n` slots from slot `c` on. -/
def levelsFrom (v : TimecodeValue) (c n : Nat) : List Level :=
  (List.range' c n).map (expectedLevel v)

/-- Ticks that do not reach the wrap, possibly none: their levels, and some level left on the line. -/
theorem iterate_doTick_before_wrap (n : Nat) {s : State} {c : Fin 80} (hr : s.transport = .running)
    (hc : c.val = s.cursor.val + n) :
    ∃ l, State.doTick^[n] s =
      { s with level := l, lineTrace := s.lineTrace ++ levelsFrom s.tc s.cursor.val n, cursor := c } := by
  cases n with
  | zero =>
    obtain rfl : c = s.cursor := Fin.ext hc
    exact ⟨s.level, by simp [levelsFrom]⟩
  | succ n => exact ⟨_, iterate_doTick_data n s c hr hc⟩

/-- The ticks from any slot up to and including the wrap. -/
theorem iterate_doTick_to_wrap {n : Nat} {s : State} (hr : s.transport = .running) (hn : s.cursor.val + n = 80) :
    State.doTick^[n] s =
      { s with level := .ground, lineTrace := s.lineTrace ++ levelsFrom s.tc s.cursor.val n, cursor := 0
               tc := s.tc.inc s.config.fps.perSecond, txPending := true } := by
  have hc := s.cursor.isLt
  obtain ⟨m, rfl⟩ : ∃ m, n = m + 1 := ⟨n - 1, by omega⟩
  obtain ⟨l, hl⟩ := iterate_doTick_before_wrap m (c := 79) hr (by omega)
  rw [Function.iterate_succ_apply', hl, doTick_wrap (by exact hr) rfl]
  have h79 : s.cursor.val + m = 79 := by omega
  simp [levelsFrom, List.range'_concat, h79, expectedLevel_ground]

/-- One whole frame. -/
theorem iterate_doTick_frame {s : State} (hr : s.transport = .running) (hc : s.cursor.val = 0) :
    State.doTick^[80] s =
      { s with level := .ground, lineTrace := s.lineTrace ++ (List.range 80).map (expectedLevel s.tc)
               tc := s.tc.inc s.config.fps.perSecond, txPending := true } := by
  have h0 : s.cursor = 0 := Fin.ext hc
  rw [iterate_doTick_to_wrap hr (by omega), hc, levelsFrom, ← List.range_eq_range', ← h0]

/-- Settles O15. -/
theorem frameShowsTheCounter : Obligations.FrameShowsTheCounter := by
  intro s hr hc
  exact ⟨_, exec_inc s, by rw [exec_frame, iterate_doTick_frame hr hc]⟩

/-! ### The ground level marks the wrap (R154) -/

theorem length_levelsFrom (v : TimecodeValue) (c n : Nat) : (levelsFrom v c n).length = n := by
  simp [levelsFrom]

theorem count_ground_before_wrap (v : TimecodeValue) {c n : Nat} (h : c + n ≤ 79) :
    (levelsFrom v c n).count .ground = 0 := by
  rw [levelsFrom, List.count_eq_zero, List.mem_map]
  rintro ⟨k, hk, he⟩
  have := (List.mem_range'_1.1 hk).2
  exact expectedLevel_ne_ground v (by omega) he

theorem count_ground_to_wrap (v : TimecodeValue) {c n : Nat} (h : c + n = 80) (hn : 0 < n) :
    (levelsFrom v c n).count .ground = 1 := by
  obtain ⟨m, rfl⟩ : ∃ m, n = m + 1 := ⟨n - 1, by omega⟩
  have h79 : c + m = 79 := by omega
  have before := count_ground_before_wrap v h79.le
  rw [levelsFrom] at before ⊢
  rw [List.range'_concat, List.map_append, List.count_append, before, Nat.one_mul, h79]
  simp [expectedLevel_ground]

/-- Settles O17: the ticks to the wrap, then those of the next frame up to the slot where the first began. -/
theorem eightyTicksWrapOnce : Obligations.EightyTicksWrapOnce := by
  intro s hr
  have hc := s.cursor.isLt
  have wrap := iterate_doTick_to_wrap (n := 80 - s.cursor.val) hr (by omega)
  obtain ⟨l, after⟩ := iterate_doTick_before_wrap s.cursor.val (c := s.cursor)
    (s := { s with level := .ground, lineTrace := s.lineTrace ++ levelsFrom s.tc s.cursor.val (80 - s.cursor.val)
                   cursor := 0, tc := s.tc.inc s.config.fps.perSecond, txPending := true })
    hr (Nat.zero_add _).symm
  refine ⟨s.tc.inc s.config.fps.perSecond, levelsFrom s.tc s.cursor.val (80 - s.cursor.val) ++
    levelsFrom (s.tc.inc s.config.fps.perSecond) 0 s.cursor.val, l, exec_inc s, ?length, ?ground, ?run⟩
  case length =>
    rw [List.length_append, length_levelsFrom, length_levelsFrom]
    omega
  case ground =>
    rw [List.count_append, count_ground_to_wrap _ (by omega) (by omega), count_ground_before_wrap _ (by omega)]
  case run =>
    have split : State.doTick^[80] s = State.doTick^[s.cursor.val] (State.doTick^[80 - s.cursor.val] s) := by
      rw [← Function.iterate_add_apply, Nat.add_sub_cancel' hc.le]
    rw [exec_ticks, split, wrap, after, ← List.append_assoc]
    rfl

/-! ### A counter replaced in mid-frame, and a pause or stop inside a frame -/

/-- Settles O18: the ticks before the load run on the old value, those after it, the wrap among them, on the new
one. -/
theorem tornFrameShowsBothValues : Obligations.TornFrameShowsBothValues := by
  intro s v k hr hc hk
  obtain ⟨l, before⟩ := iterate_doTick_before_wrap k (c := ⟨k, hk⟩) hr (by rw [hc, Nat.zero_add])
  refine ⟨_, _, _, exec_ticks k s, exec_setfrom v _, exec_ticks (80 - k) _, ?_⟩
  rw [before, iterate_doTick_to_wrap (by exact hr) (by simp; omega)]
  refine ⟨?trace, rfl, Fin.ext hc.symm⟩
  case trace => simp [levelsFrom, hc, List.range_eq_range', List.drop_range']

/-- Settles O19: while Paused or Stopped the ticks show ground only, and both flags come back as they were. -/
theorem pauseFreezesTheFrame : Obligations.PauseFreezesTheFrame := by
  intro s n hr
  obtain ⟨hs, hp⟩ := (transport_running_iff s).1 hr
  constructor
  · have paused : s.doPause = { s with clockPaused := true } := by
      simp [State.doPause, hs, hp]
    refine ⟨_, _, _, exec_pause s, s.doPause_level, exec_ticks n _, exec_resume _, ?_⟩
    rw [paused, iterate_doTick_notRunning n _ (by simp [transport_running_iff])]
    simp [State.doResume, hs, hp]
  · refine ⟨_, _, _, exec_stop s, s.doStop_level, exec_ticks n _, exec_start _, ?_⟩
    rw [iterate_doTick_notRunning n _ (by simp)]
    simp [State.doStart, State.doStop, hs, hp]

/-! ### The reference extractor (R155) -/

/-- Over slots that carry the bits of a number, the extractor gives the number modulo the width. -/
theorem extractField_eq_mod {levels : List Level} {x first width : Nat}
    (h : ∀ i < width, levels[first + i]? = some (bitLevel x i)) :
    extractField levels first width = x % 2 ^ width := by
  induction width with
  | zero => simp [extractField, Nat.mod_one]
  | succ w ih =>
    have bit : (if levels[first + w]? = some .high then 2 ^ w else 0) = 2 ^ w * (x / 2 ^ w % 2) := by
      rw [h w (Nat.lt_succ_self w), bitLevel]
      rcases Nat.mod_two_eq_zero_or_one (x / 2 ^ w) with h0 | h1
      · simp [h0]
      · simp [h1]
    rw [extractField, ih fun i hi => h i (Nat.lt_succ_of_lt hi), bit, Nat.pow_succ, Nat.mod_mul]

theorem getElem_frame (v : TimecodeValue) {c : Nat} (h : c < 80) :
    ((List.range 80).map (expectedLevel v))[c]? = some (expectedLevel v c) := by
  rw [List.getElem?_map, List.getElem?_range h, Option.map_some]

/-- A bit above the width of a field is zero. -/
theorem bitLevel_of_width_le {w i : Nat} (x : BitVec w) (h : w ≤ i) : bitLevel x.toNat i = .low := by
  rw [bitLevel, Nat.div_eq_of_lt (x.isLt.trans_le (Nat.pow_le_pow_right (by decide) h))]
  rfl

/-- The slots above the seconds, minutes and hours show zero bits. -/
theorem expectedLevel_unused (v : TimecodeValue) {c : Nat} (h : c ∈ [38, 39, 46, 47] ∨ 53 ≤ c ∧ c < 79) :
    expectedLevel v c = .low := by
  simp only [List.mem_cons, List.not_mem_nil, or_false] at h
  by_cases hs : c < 40
  · rw [expectedLevel_seconds v (by omega) hs, bitLevel_of_width_le _ (by omega)]
  · by_cases hm : c < 48
    · rw [expectedLevel_minutes v (by omega) hm, bitLevel_of_width_le _ (by omega)]
    · rw [expectedLevel_hours v (by omega) (by omega), bitLevel_of_width_le _ (by omega)]

/-- Settles O16: slot by slot the frame carries the bits of its field, zero above the field's width. -/
theorem frameDecodesBack : Obligations.FrameDecodesBack := by
  intro s hr hc
  refine ⟨_, (List.range 80).map (expectedLevel s.tc), exec_frame s, by rw [iterate_doTick_frame hr hc], by simp,
    by rw [getElem_frame _ (by decide), expectedLevel_ground], ?frames, ?seconds, ?minutes, ?hours,
    fun c h => ?repeats, fun c h => ?zeros, fun c hl h => ?zerosOfHours⟩
  case frames =>
    refine extractField_eq_mod fun i hi => ?_
    rw [getElem_frame _ (by omega), expectedLevel_frames _ (by omega), Nat.zero_add, Nat.mod_eq_of_lt hi]
  case seconds =>
    refine (extractField_eq_mod fun i hi => ?_).trans (Nat.mod_eq_of_lt s.tc.seconds.isLt)
    rw [getElem_frame _ (by omega), expectedLevel_seconds _ (by omega) (by omega), Nat.add_sub_cancel_left]
  case minutes =>
    refine (extractField_eq_mod fun i hi => ?_).trans (Nat.mod_eq_of_lt s.tc.minutes.isLt)
    rw [getElem_frame _ (by omega), expectedLevel_minutes _ (by omega) (by omega), Nat.add_sub_cancel_left]
  case hours =>
    refine (extractField_eq_mod fun i hi => ?_).trans (Nat.mod_eq_of_lt s.tc.hours.isLt)
    rw [getElem_frame _ (by omega), expectedLevel_hours _ (by omega) (by omega), Nat.add_sub_cancel_left]
  case repeats =>
    rw [getElem_frame _ (by omega), getElem_frame _ (by omega), expectedLevel_frames _ h,
      expectedLevel_frames _ (by omega), Nat.mod_mod]
  case zeros =>
    have hlt : c < 80 := by
      simp only [List.mem_cons, List.not_mem_nil, or_false] at h
      omega
    rw [getElem_frame _ hlt, expectedLevel_unused _ (.inl h)]
  case zerosOfHours => rw [getElem_frame _ (by omega), expectedLevel_unused _ (.inr ⟨hl, h⟩)]

end Sys2Proof.Machine
end

section
/-! PROOFS. quarter_frame_receiver: single bytes, whole messages, and the round trip with the transmitter
(42_quarter_frame_receiver.md R170 to R176, 90_conflicts.md C13). -/

namespace Sys2Proof.Machine

/-! ### Single bytes -/

/-- The byte with given halves is the machine's own data byte. -/
theorem eq_dataByte_of_toNat {b : Byte} {u n : Nibble} (h : b.toNat = 16 * u.toNat + n.toNat) : b = dataByte u n :=
  BitVec.eq_of_toNat_eq (h.trans (dataByte_toNat u n).symm)

/-- The slots after a write to slot 7 give the value of seven old nibbles and the new one. -/
theorem isAssembled_writeSlot_seven (x : Vector Nibble 8) (n : Nibble) :
    IsAssembled (assemble (writeSlot x 7 n)) x[0] x[1] x[2] x[3] x[4] x[5] x[6] n := by
  simpa [writeSlot] using assemble_isAssembled (writeSlot x 7 n)

/-- Settles O21. -/
theorem dataByteIsStored : Obligations.DataByteIsStored := by
  intro s b u n hp hk hb
  obtain rfl := eq_dataByte_of_toNat hb
  rw [exec_rx, exec_rxData, doRx_data hp hk, dataNibble_dataByte]
  exact ⟨rfl, rfl⟩

/-- Settles O22: the value loaded is assembled from the slots after the write. -/
theorem slotSevenReassembles : Obligations.SlotSevenReassembles := by
  intro s b u n hp hk hb
  obtain rfl := eq_dataByte_of_toNat hb
  rw [exec_rx, exec_rxData, doRx_seven hp hk, dataNibble_dataByte]
  exact ⟨_, isAssembled_writeSlot_seven s.slot n, rfl, rfl⟩

/-- Settles O23: the byte is no tag byte. -/
theorem otherBytesAreIgnored : Obligations.OtherBytesAreIgnored := by
  intro s b hp hb
  have hn : isTagByte b = false := by
    rw [← Bool.not_eq_true, isTagByte_iff]
    omega
  rw [exec_rx, exec_rxIgnore, doRx_ignored hp hn]
  exact ⟨rfl, rfl⟩

/-- Settles O24: each row has been shown to be `RX` of its byte. -/
theorem receivedByteRowsAgreeWithRx : Obligations.ReceivedByteRowsAgreeWithRx := by
  refine fun s b => ⟨fun k hb => ?tag, fun u n hb => ?data, ?ignore⟩
  case tag => rw [eq_tagByte_of_toNat hb, exec_rxTag, exec_rx]
  case data => rw [eq_dataByte_of_toNat hb, exec_rxData, exec_rx]
  case ignore => rw [exec_rxIgnore, exec_rx]

/-! ### A lost data byte (C13) -/

theorem dataNibble_tagByte (k : BitVec 3) : dataNibble (tagByte k) = BitVec.ofNat 4 k.toNat := by
  revert k; decide

theorem isTagByte_dataByte_zero (n : Nibble) : isTagByte (dataByte 0 n) = false := by
  revert n; decide

theorem doRx_after_lost_data {s : State} {j : BitVec 3} (k : BitVec 3) (n : Nibble) (hp : s.rxPhase = .idle)
    (hj : j ≠ 7) :
    ((s.doRx (tagByte j)).doRx (tagByte k)).doRx (dataByte 0 n) =
      { s with slot := writeSlot s.slot j (BitVec.ofNat 4 k.toNat), rxSlot := j } := by
  rw [doRx_tagByte j hp, doRx_data (b := tagByte k) rfl hj, doRx_ignored rfl (isTagByte_dataByte_zero n),
    dataNibble_tagByte, hp]

/-- Settles O25: the three bytes are a tag, data for its slot, and a byte to ignore. -/
theorem lostDataByteCostsTwoMessages : Obligations.LostDataByteCostsTwoMessages := by
  intro s j k n rest hp hj
  have played : Plays [.byte (tagByte j), .byte (tagByte k), .byte (dataByte 0 n)]
      [.rx (tagByte j), .rx (tagByte k), .rx (dataByte 0 n)] :=
    (plays_byte _).append ((plays_byte _).append (plays_byte _))
  exact (played s rest).trans (congrArg _ (doRx_after_lost_data (s := { s with pending := rest }) k n hp hj))

/-! ### Whole messages -/

/-- Settles O26. -/
theorem messageFillsItsSlot : Obligations.MessageFillsItsSlot := by
  refine fun s k n hp => ⟨fun hk => ?other, fun hk => ?seven⟩
  case other =>
    rw [exec_qf, doQf_other n hp hk]
    rfl
  case seven =>
    obtain rfl := hk
    rw [exec_qf, doQf_seven n hp]
    exact ⟨_, isAssembled_writeSlot_seven s.slot n, rfl⟩

/-- Messages of slots other than 7 write the slots only, and the slot index. -/
theorem foldl_doQf_other {l : List (BitVec 3 × Nibble)} (hl : ∀ x ∈ l, x.1 ≠ 7) {s : State} (hp : s.rxPhase = .idle) :
    ∃ k, l.foldl (fun s x => s.doQf x.1 x.2) s =
      { s with slot := l.foldl (fun y x => writeSlot y x.1 x.2) s.slot, rxSlot := k } := by
  induction l generalizing s with
  | nil => exact ⟨s.rxSlot, rfl⟩
  | cons x l ih =>
    rw [List.foldl_cons, doQf_other x.2 hp (hl x List.mem_cons_self)]
    exact ih (fun y hy => hl y (List.mem_cons_of_mem x hy)) hp

/-- The eight nibbles of a value, slot 0 first (30_encoding.md R98). -/
def slotsOf (v : TimecodeValue) : Vector Nibble 8 :=
  #v[nib 0 v, nib 1 v, nib 2 v, nib 3 v, nib 4 v, nib 5 v, nib 6 v, nib 7 v]

theorem slotsOf_toNat (v : TimecodeValue) :
    (slotsOf v).toList.map BitVec.toNat =
      [v.frames.toNat % 16, v.frames.toNat / 16, v.seconds.toNat % 16, v.seconds.toNat / 16,
       v.minutes.toNat % 16, v.minutes.toNat / 16, v.hours.toNat % 16, v.hours.toNat / 16] := by
  simp only [slotsOf, Vector.toList_mk, List.map_cons, List.map_nil, nib_frames, nib_seconds, nib_minutes, nib_hours]

/-- The nibbles of a value are assembled to that value. -/
theorem assemble_slotsOf (v : TimecodeValue) : assemble (slotsOf v) = v := by
  refine isAssembled_unique (assemble_isAssembled (slotsOf v)) ?_
  have hf := v.frames.isLt
  have hs := v.seconds.isLt
  have hm := v.minutes.isLt
  have hh := v.hours.isLt
  simp only [IsAssembled, slotsOf, Vector.getElem_mk, List.getElem_toArray, List.getElem_cons_zero,
    List.getElem_cons_succ, nib_frames, nib_seconds, nib_minutes, nib_hours]
  omega

/-- The messages of a value carry its nibbles. -/
theorem messages_eq (v : TimecodeValue) :
    messages v = ([0, 1, 2, 3, 4, 5, 6, 7] : List (BitVec 3)).map fun k => (k, nib k v) := by
  have ofNat_eq : ∀ {n : Nibble} {x : Nat}, n.toNat = x → BitVec.ofNat 4 x = n := fun h => by
    rw [← h, BitVec.ofNat_toNat, BitVec.setWidth_eq]
  obtain ⟨h0, h1⟩ := nib_frames v
  obtain ⟨h2, h3⟩ := nib_seconds v
  obtain ⟨h4, h5⟩ := nib_minutes v
  obtain ⟨h6, h7⟩ := nib_hours v
  rw [messages, ofNat_eq h0, ofNat_eq h1, ofNat_eq h2, ofNat_eq h3, ofNat_eq h4, ofNat_eq h5, ofNat_eq h6, ofNat_eq h7]
  rfl

/-- Eight writes leave nothing of what the slots held. -/
theorem foldl_writeSlot_messages (v : TimecodeValue) (x : Vector Nibble 8) :
    (messages v).foldl (fun y m => writeSlot y m.1 m.2) x = slotsOf v := by
  rw [messages_eq]
  ext i hi : 1
  interval_cases i <;> simp [writeSlot, slotsOf]

/-- The eight messages of a value load exactly that value. -/
theorem foldl_doQf_messages (v : TimecodeValue) {s : State} (hp : s.rxPhase = .idle) :
    (messages v).foldl (fun s x => s.doQf x.1 x.2) s =
      { s with tc := v, slot := slotsOf v, rxSlot := 7, clockStarted := true, clockPaused := false } := by
  have split : messages v = ([0, 1, 2, 3, 4, 5, 6] : List (BitVec 3)).map (fun k => (k, nib k v)) ++ [(7, nib 7 v)] :=
    messages_eq v
  have slots := foldl_writeSlot_messages v s.slot
  have other : ∀ x ∈ ([0, 1, 2, 3, 4, 5, 6] : List (BitVec 3)).map (fun k => (k, nib k v)), x.1 ≠ 7 := by
    simp
  obtain ⟨k, first⟩ := foldl_doQf_other other hp
  rw [split, List.foldl_append, List.foldl_cons, List.foldl_nil] at slots
  rw [split, List.foldl_append, first, List.foldl_cons, List.foldl_nil, doQf_seven (nib 7 v) (by exact hp), slots,
    assemble_slotsOf]

/-- Settles O27. -/
theorem mtcLoadsTheExactValue : Obligations.MtcLoadsTheExactValue := by
  intro s h m sec f hp
  exact ⟨_, slotsOf_toNat ⟨h, m, sec, f⟩, congrArg Host.Outcome.next (foldl_doQf_messages ⟨h, m, sec, f⟩ hp)⟩

/-! ### The round trip (R176 (d), R197 (b)) -/

/-- The bytes of a transfer, received, are the messages of its value. -/
theorem plays_transferBytes (v : TimecodeValue) :
    Plays ((transferBytes v).map .byte) ((messages v).flatMap fun x => qfActs x.1 x.2) := by
  rw [transferBytes_eq_messages, messages_eq, List.map_flatMap, List.flatMap_map]
  exact Plays.flatMap (fun k => (plays_byte (tagByte k)).append (plays_byte (dataByte 0 (nib k v)))) _

/-- Settles O28: the sixteen bytes perform the eight messages, which load exactly the value. -/
theorem transmittedValueIsReceivedExactly : Obligations.TransmittedValueIsReceivedExactly := by
  intro s v rest hp
  have played := plays_transferBytes v s rest
  rw [List.length_map, length_transferBytes, applyAll_messages, foldl_doQf_messages v (by exact hp)] at played
  exact ⟨_, played, rfl, rfl, hp, rfl, rfl, rfl, rfl, rfl⟩

end Sys2Proof.Machine
end

section
/-! PROOFS. quarter_frame_transmitter: the poll, one acceptance, a whole transfer, and frames that complete during one
(43_quarter_frame_transmitter.md R190 to R197). -/

namespace Sys2Proof.Machine

/-! ### `TXPOLL` -/

theorem doTxpoll_starts {s : State} (hp : s.txPending = true) (hb : s.txBusy = false) (hr : s.transport = .running)
    (he : s.config.txEnable = true) :
    s.doTxpoll = { s with txPending := false, txLatch := s.tc, txIdx := 0, txBusy := true } := by
  simp [State.doTxpoll, State.startTransfer, hp, hb, he, (isRunning_iff s).2 hr]

theorem doTxpoll_drops {s : State} (hp : s.txPending = true) (hb : s.txBusy = false)
    (h : s.transport ≠ .running ∨ s.config.txEnable = false) : s.doTxpoll = { s with txPending := false } := by
  have hn : (s.isRunning && s.config.txEnable) = false := by
    rcases h with h | h
    · simp [State.isRunning, h]
    · rw [h, Bool.and_false]
  simp [State.doTxpoll, hp, hb, hn]

/-- Settles O29. -/
theorem pollServesTheFrameFlag : Obligations.PollServesTheFrameFlag := by
  refine fun s => ⟨fun hp hb hr he => ?starts, fun hp hb h => ?drops, fun h => ?idle⟩
  case starts => rw [exec_txpoll, doTxpoll_starts hp hb hr he]
  case drops => rw [exec_txpoll, doTxpoll_drops hp hb h]
  case idle => rw [exec_txpoll, doTxpoll_idle h]

/-! ### One acceptance -/

/-- Byte `i` is entry `i` of the table of a transfer (R192). -/
theorem getElem_expectedTransfer (v : TimecodeValue) (i : BitVec 4) :
    (expectedTransfer v)[i.toNat]? = some (txByte i v).toNat := by
  rw [← transferLayout v, List.getElem?_map, getElem_transferBytes]
  rfl

/-- The byte at an index is fixed by its entry in the table. -/
theorem eq_txByte_of_toNat {v : TimecodeValue} {i : BitVec 4} {b : Byte}
    (h : (expectedTransfer v)[i.toNat]? = some b.toNat) : b = txByte i v := by
  rw [getElem_expectedTransfer] at h
  exact BitVec.eq_of_toNat_eq (Option.some.inj h).symm

theorem isTagIndex_iff (i : BitVec 4) : isTagIndex i = true ↔ i.toNat % 2 = 0 := by
  revert i; decide

theorem messageOf_toNat (i : BitVec 4) : (messageOf i).toNat = i.toNat / 2 := by
  revert i; decide

/-- The byte at an even index is the tag byte of its message (R192). -/
theorem txByte_even_toNat {i : BitVec 4} (v : TimecodeValue) (h : i.toNat % 2 = 0) :
    (txByte i v).toNat = 0xF0 + i.toNat / 2 := by
  rw [txByte, if_pos ((isTagIndex_iff i).2 h), tagByte_toNat, messageOf_toNat]

/-- Settles O30: byte 15 is the last one. -/
theorem readySinkTakesOneByte : Obligations.ReadySinkTakesOneByte := by
  refine fun s => ⟨fun hb => ?busy, fun hb => ?idle⟩
  case busy =>
    by_cases hi : s.txIdx = 15
    · refine ⟨_, s.txIdx, getElem_expectedTransfer s.txLatch s.txIdx, by simp [hi], ?_⟩
      rw [exec_txrdy, doTxrdy_last hb hi, hi]
      rfl
    · have hn : s.txIdx.toNat ≠ 15 := fun h => hi (BitVec.eq_of_toNat_eq h)
      refine ⟨_, s.txIdx + 1, getElem_expectedTransfer s.txLatch s.txIdx, ?_, ?_⟩
      · rw [if_neg hn]
        bv_omega
      · rw [exec_txrdy, doTxrdy_next hb hi, hb, decide_eq_true hn]
  case idle => rw [exec_txrdy, doTxrdy_idle hb]

/-- Settles O31: both rows are the acceptance, and the byte is the one at the transfer's index. -/
theorem transmitRowsEmitTheirByte : Obligations.TransmitRowsEmitTheirByte := by
  refine fun s b hb => ⟨fun h hbyte => ?tag, fun h hbyte hn => ?data, fun h hbyte => ?last⟩
  case tag =>
    have hi : s.txIdx ≠ 15 := fun hi => by rw [hi] at h; cases h
    obtain rfl : b = txByte s.txIdx s.txLatch :=
      BitVec.eq_of_toNat_eq (hbyte.trans (txByte_even_toNat s.txLatch h).symm)
    rw [exec_txTag, doTxrdy_next hb hi]
  case data =>
    have hi : s.txIdx ≠ 15 := fun hi => hn (congrArg BitVec.toNat hi)
    obtain rfl := eq_txByte_of_toNat hbyte
    rw [exec_txData, doTxrdy_next hb hi]
  case last =>
    have hi : s.txIdx = 15 := BitVec.eq_of_toNat_eq h
    obtain rfl : b = txByte 15 s.txLatch := eq_txByte_of_toNat (congrArg some hbyte.symm)
    rw [exec_txData, doTxrdy_last hb hi]

/-- Settles O32: each row has been shown to be the acceptance. -/
theorem transmitRowsAgreeWithTxrdy : Obligations.TransmitRowsAgreeWithTxrdy := by
  intro s
  exact ⟨s.doTxrdy, exec_txrdy s, exec_txTag s, exec_txData s⟩

/-! ### The rest of a transfer -/

theorem drop_transferBytes (v : TimecodeValue) (i : BitVec 4) :
    (transferBytes v).drop i.toNat = txByte i v :: (transferBytes v).drop (i.toNat + 1) := by
  rw [List.drop_eq_getElem?_toList_append, getElem_transferBytes]
  rfl

/-- The acceptances from byte `15 - n` to byte 15. -/
theorem iterate_doTxrdy_to_end (n : Nat) {s : State} (hb : s.txBusy = true) (hn : s.txIdx.toNat + n = 15) :
    State.doTxrdy^[n + 1] s =
      { s with txTrace := s.txTrace ++ (transferBytes s.txLatch).drop s.txIdx.toNat, txIdx := 15
               txBusy := false } := by
  induction n generalizing s with
  | zero =>
    have hi : s.txIdx = 15 := BitVec.eq_of_toNat_eq hn
    have last : (transferBytes s.txLatch).drop s.txIdx.toNat = [txByte 15 s.txLatch] := by
      rw [drop_transferBytes, hi]
      exact congrArg _ (List.drop_of_length_le (length_transferBytes _).le)
    rw [last, Function.iterate_one, doTxrdy_last hb hi, ← hi]
  | succ n ih =>
    have hi : s.txIdx ≠ 15 := fun hi => by rw [hi] at hn; simp at hn
    have hnext : (s.txIdx + 1).toNat = s.txIdx.toNat + 1 := by bv_omega
    rw [Function.iterate_succ_apply, doTxrdy_next hb hi, ih (by exact hb) (by simp only [hnext]; omega)]
    simp only [hnext, drop_transferBytes s.txLatch s.txIdx, List.append_assoc, List.singleton_append]

/-- `DRAIN` with a transfer in progress. -/
theorem iterate_doTxrdy_drain {s : State} (hb : s.txBusy = true) :
    State.doTxrdy^[16] s =
      { s with txTrace := s.txTrace ++ (transferBytes s.txLatch).drop s.txIdx.toNat, txIdx := 15
               txBusy := false } := by
  obtain ⟨n, hn⟩ : ∃ n, s.txIdx.toNat + n = 15 := ⟨15 - s.txIdx.toNat, by bv_omega⟩
  have split : State.doTxrdy^[16] s = State.doTxrdy^[s.txIdx.toNat] (State.doTxrdy^[n + 1] s) := by
    rw [← Function.iterate_add_apply, ← Nat.add_assoc, hn]
  rw [split, iterate_doTxrdy_to_end n hb hn, iterate_doTxrdy_idle _ rfl]

/-- Settles O34. -/
theorem drainSendsTheRest : Obligations.DrainSendsTheRest := by
  refine fun s => ⟨fun hb => ?busy, fun hb => ?idle⟩
  case busy =>
    refine ⟨(transferBytes s.txLatch).drop s.txIdx.toNat, ?_, ?_⟩
    · rw [List.map_drop, transferLayout]
    · rw [exec_drain, iterate_doTxrdy_drain hb]
  case idle => rw [exec_drain, iterate_doTxrdy_idle 16 hb]

/-- Settles O35: a poll that starts a transfer is followed by all of it; any other leaves the drain what it was. -/
theorem sendTransmitsTheCounter : Obligations.SendTransmitsTheCounter := by
  refine fun s => ⟨fun hp hb hr he => ?sent, fun hp hb h => ?dropped, fun hb => ?busy, fun hp hb => ?idle⟩
  case sent =>
    refine ⟨transferBytes s.tc, transferLayout s.tc, ?_⟩
    rw [exec_send, doTxpoll_starts hp hb hr he, iterate_doTxrdy_drain rfl, hb]
    rfl
  case dropped => rw [exec_send, doTxpoll_drops hp hb h, iterate_doTxrdy_idle 16 (by exact hb)]
  case busy => rw [exec_send, exec_drain, doTxpoll_idle (.inr hb)]
  case idle => rw [exec_send, doTxpoll_idle (.inl hp), iterate_doTxrdy_idle 16 hb]

/-! ### Frames that complete during a transfer (decision D16) -/

/-- Whole frames, one or more of them. -/
theorem iterate_doTick_frames (n : Nat) {s : State} (hr : s.transport = .running) (hc : s.cursor.val = 0) :
    ∃ levels, State.doTick^[80 * (n + 1)] s =
      { s with level := .ground, lineTrace := levels, tc := (TimecodeValue.inc s.config.fps.perSecond)^[n + 1] s.tc
               txPending := true } := by
  induction n with
  | zero => exact ⟨_, iterate_doTick_frame hr hc⟩
  | succ n ih =>
    obtain ⟨levels, h⟩ := ih
    rw [Nat.mul_succ, Nat.add_comm, Function.iterate_add_apply, h, iterate_doTick_frame (by exact hr) (by exact hc),
      Function.iterate_succ_apply' _ (n + 1)]
    exact ⟨_, rfl⟩

/-- Settles O37: the frames set the flag and count the counter on, the drain ends the transfer, and the poll starts
one of the counter's value then. -/
theorem wrapsDuringATransferCoalesce : Obligations.WrapsDuringATransferCoalesce := by
  intro s n hr hc hb he hn
  obtain ⟨m, rfl⟩ : ∃ m, n = m + 1 := ⟨n - 1, by omega⟩
  obtain ⟨levels, frames⟩ := iterate_doTick_frames m hr hc
  refine ⟨_, _, _, exec_ticks _ s, ?busy, ?latch, exec_drain _, exec_txpoll _, ?_⟩
  all_goals rw [frames]
  case busy => exact hb
  rw [iterate_doTxrdy_drain (by exact hb), doTxpoll_starts rfl rfl (by exact hr) (by exact he)]
  refine ⟨rfl, rfl, rfl, rfl, ?_⟩
  rw [exec_txpoll, doTxpoll_idle (.inr rfl)]

end Sys2Proof.Machine
end

section
/-! PROOFS. transport_state_machine: the flags after each control operation, from all four flag pairs, and the
transition table (44_transport_controller.md R210 to R215, 95_test_vectors.md section 2.5). -/

namespace Sys2Proof.Machine

/-- `PAUSE` sets the paused flag of a started transport (R212). -/
theorem State.doPause_eq (s : State) : s.doPause = { s with clockPaused := s.clockStarted || s.clockPaused } := by
  rcases doPause_cases s with ⟨hr, h⟩ | ⟨hr, h⟩ <;> rw [h]
  · rw [((transport_running_iff s).1 hr).1, Bool.true_or]
  · have same : (s.clockStarted || s.clockPaused) = s.clockPaused := by
      rw [ne_eq, transport_running_iff] at hr
      revert hr
      cases s.clockStarted <;> cases s.clockPaused <;> decide
    rw [same]

/-- `RESUME` resets the paused flag of a started transport (R213). -/
theorem State.doResume_eq (s : State) : s.doResume = { s with clockPaused := !s.clockStarted && s.clockPaused } := by
  rcases doResume_cases s with ⟨hs, hp, h⟩ | ⟨hn, h⟩ <;> rw [h]
  · rw [hs, Bool.not_true, Bool.false_and]
  · have same : (!s.clockStarted && s.clockPaused) = s.clockPaused := by
      revert hn
      cases s.clockStarted <;> cases s.clockPaused <;> decide
    rw [same]

/-- Settles O40. -/
theorem transportFlagsTable : Obligations.TransportFlagsTable := by
  intro s
  refine ⟨exec_start s, ?pause, ?resume⟩
  case pause => rw [exec_pause, State.doPause_eq]
  case resume => rw [exec_resume, State.doResume_eq]

@[simp] theorem State.doStart_transport (s : State) : s.doStart.transport = .running := rfl

theorem State.doPause_transport (s : State) :
    s.doPause.transport = if s.transport = .running then .paused else s.transport := by
  rw [State.doPause_eq, State.transport, State.transport]
  cases s.clockStarted <;> cases s.clockPaused <;> rfl

theorem State.doResume_transport (s : State) :
    s.doResume.transport = if s.transport = .paused then .running else s.transport := by
  rw [State.doResume_eq, State.transport, State.transport]
  cases s.clockStarted <;> cases s.clockPaused <;> rfl

/-- Settles O38: the four transitions, and the frame of each operation. -/
theorem transportTransitionTable : Obligations.TransportTransitionTable := by
  intro s _
  refine ⟨_, _, _, _, exec_start s, s.doStart_transport, exec_stop s, s.doStop_transport, exec_pause s,
    s.doPause_transport, exec_resume s, s.doResume_transport, ?frame⟩
  intro t ht
  simp only [List.mem_cons, List.not_mem_nil, or_false] at ht
  rcases ht with rfl | rfl | rfl | rfl
  · rfl
  · rfl
  · rw [State.doPause_eq]
  · rw [State.doResume_eq]

/-- Settles O41: each of the four flag functions is its own square. -/
theorem controlsAreIdempotent : Obligations.ControlsAreIdempotent := by
  intro i s t hi h
  simp only [List.mem_cons, List.not_mem_nil, or_false] at hi
  rcases hi with rfl | rfl | rfl | rfl <;> obtain rfl := Host.Outcome.next.inj h
  · rfl
  · rfl
  · rw [exec_pause, State.doPause_eq, State.doPause_eq, ← Bool.or_assoc, Bool.or_self]
  · rw [exec_resume, State.doResume_eq, State.doResume_eq, ← Bool.and_assoc, Bool.and_self]

end Sys2Proof.Machine
end

section
/-! PROOFS. Who may write what, over the external operations (10_state.md section 2, 20_memory.md section 5). -/

namespace Sys2Proof.Machine

/-- Settles O4: the counter is written in the wrap case of a tick and in the reassembly case of a received byte. -/
theorem counterHasTwoWritersAndReset : Obligations.CounterHasTwoWritersAndReset := by
  refine ⟨rfl, fun i s t hi h => ?_⟩
  rcases external_cases hi with rfl | rfl | ⟨b, rfl⟩ | rfl | rfl | rfl | rfl | rfl | rfl <;>
    obtain rfl := Host.Outcome.next.inj h
  case inl => exact .inr (.inr (.inr ⟨rfl, rfl⟩))
  case inr.inl =>
    rcases doTick_cases s with ⟨-, hd⟩ | ⟨hr, hc, hd⟩ | ⟨-, c, -, hd⟩ <;> rw [hd]
    · exact .inl rfl
    · exact .inr (.inl ⟨rfl, hr, hc, exec_inc s⟩)
    · exact .inl rfl
  case inr.inr.inl =>
    by_cases hk : s.AwaitsSlotSeven
    · exact .inr (.inr (.inl ⟨b, rfl, hk, exec_setfrom _ s⟩))
    · rw [State.doRx_frame_of_not_awaits b hk]
      exact .inl rfl
  all_goals exact .inl (by simp)

/-- Settles O5: the frame of each operation. -/
theorem onlyTheOwnersWrite : Obligations.OnlyTheOwnersWrite := by
  intro i s t hi hreset h
  rcases external_cases hi with rfl | rfl | ⟨b, rfl⟩ | rfl | rfl | rfl | rfl | rfl | rfl <;>
    obtain rfl := Host.Outcome.next.inj h
  case inl => exact absurd rfl hreset
  case inr.inr.inl =>
    by_cases hk : s.AwaitsSlotSeven
    · simp [hk]
    · rw [State.doRx_frame_of_not_awaits b hk]
      simp
  all_goals simp

/-- Settles O36: a poll does nothing while a transfer is in progress; any other of these operations does not own the
registers of the transfer. -/
theorem transferIsUndisturbed : Obligations.TransferIsUndisturbed := by
  intro i s t hi hreset hrdy hb h
  obtain ⟨-, htrace, -, htransfer, -⟩ := onlyTheOwnersWrite i s t hi hreset h
  by_cases hpoll : i = .txpoll
  · obtain rfl := hpoll
    rw [exec_txpoll, doTxpoll_idle (.inr hb)] at h
    obtain rfl := Host.Outcome.next.inj h
    exact ⟨hb, rfl, rfl, rfl⟩
  · obtain ⟨hbusy, hidx, hlatch⟩ := htransfer hrdy hpoll
    exact ⟨hbusy.trans hb, hidx, hlatch, htrace hrdy⟩

end Sys2Proof.Machine
end

section
/-! PROOFS. The parts of a clock edge (45_top_level_step.md R232): what is performed before the received byte, the
received byte, and what is performed after it. -/

namespace Sys2Proof.Machine

theorem onStrobe_keeps {P : State → Prop} {op : State → State} (h : ∀ u, P u → P (op u)) (strobe : Bool)
    {s : State} (hs : P s) : P (onStrobe strobe op s) := by
  cases strobe with
  | false => exact hs
  | true => exact h s hs

/-- What an operation does not write, it does not write on its strobe. -/
theorem onStrobe_field {α : Type} {f : State → α} {op : State → State} (h : ∀ u, f (op u) = f u) (strobe : Bool)
    (s : State) : f (onStrobe strobe op s) = f s :=
  onStrobe_keeps (P := fun u => f u = f s) (fun u hu => (h u).trans hu) strobe rfl

/-- The control operations of a clock edge, without reset. -/
def State.controls (i : CycleInputs) (s : State) : State :=
  onStrobe i.stop State.doStop (onStrobe i.pause State.doPause (onStrobe i.resume State.doResume
    (onStrobe i.start State.doStart s)))

/-- A clock edge without reset, up to and including its tick. -/
def State.beforeRx (i : CycleInputs) (s : State) : State :=
  onStrobe i.tick State.doTick (s.controls i)

/-- A clock edge without reset, up to and including its received byte. -/
def State.throughRx (i : CycleInputs) (s : State) : State :=
  onStrobe i.rxValid (State.doRx i.rxData) (s.beforeRx i)

/-- The part of a clock edge after its received byte. -/
def State.afterRx (i : CycleInputs) (s : State) : State :=
  (onStrobe i.txReady State.doTxrdy s).doTxpoll

theorem doCycle_eq {i : CycleInputs} (s : State) (h : i.rst = false) : s.doCycle i = (s.throughRx i).afterRx i := by
  rw [State.doCycle, h]
  rfl

/-! ### The control operations -/

/-- Another state that differs in the transport flags at most. -/
def State.SameButFlags (s u : State) : Prop :=
  ∃ f g, u = { s with clockStarted := f, clockPaused := g }

theorem State.sameButFlags_controls (i : CycleInputs) (s : State) : s.SameButFlags (s.controls i) := by
  refine onStrobe_keeps (P := s.SameButFlags) ?stop i.stop <|
    onStrobe_keeps (P := s.SameButFlags) ?pause i.pause <|
    onStrobe_keeps (P := s.SameButFlags) ?resume i.resume <|
    onStrobe_keeps (P := s.SameButFlags) ?start i.start ⟨s.clockStarted, s.clockPaused, rfl⟩
  all_goals rintro u ⟨f, g, rfl⟩
  case start => exact ⟨_, _, rfl⟩
  case stop => exact ⟨_, _, rfl⟩
  case pause => exact ⟨_, _, State.doPause_frame _⟩
  case resume => exact ⟨_, _, State.doResume_frame _⟩

/-- The control operations write the two transport flags. -/
theorem State.controls_frame (i : CycleInputs) (s : State) :
    s.controls i =
      { s with clockStarted := (s.controls i).clockStarted, clockPaused := (s.controls i).clockPaused } := by
  obtain ⟨f, g, h⟩ := s.sameButFlags_controls i
  rw [h]

@[simp] theorem State.controls_tc (i : CycleInputs) (s : State) : (s.controls i).tc = s.tc :=
  (congrArg State.tc (s.controls_frame i) :)
@[simp] theorem State.controls_cursor (i : CycleInputs) (s : State) : (s.controls i).cursor = s.cursor :=
  (congrArg State.cursor (s.controls_frame i) :)
@[simp] theorem State.controls_level (i : CycleInputs) (s : State) : (s.controls i).level = s.level :=
  (congrArg State.level (s.controls_frame i) :)
@[simp] theorem State.controls_slot (i : CycleInputs) (s : State) : (s.controls i).slot = s.slot :=
  (congrArg State.slot (s.controls_frame i) :)
@[simp] theorem State.controls_rxPhase (i : CycleInputs) (s : State) : (s.controls i).rxPhase = s.rxPhase :=
  (congrArg State.rxPhase (s.controls_frame i) :)
@[simp] theorem State.controls_rxSlot (i : CycleInputs) (s : State) : (s.controls i).rxSlot = s.rxSlot :=
  (congrArg State.rxSlot (s.controls_frame i) :)
@[simp] theorem State.controls_txBusy (i : CycleInputs) (s : State) : (s.controls i).txBusy = s.txBusy :=
  (congrArg State.txBusy (s.controls_frame i) :)
@[simp] theorem State.controls_txIdx (i : CycleInputs) (s : State) : (s.controls i).txIdx = s.txIdx :=
  (congrArg State.txIdx (s.controls_frame i) :)
@[simp] theorem State.controls_txLatch (i : CycleInputs) (s : State) : (s.controls i).txLatch = s.txLatch :=
  (congrArg State.txLatch (s.controls_frame i) :)
@[simp] theorem State.controls_config (i : CycleInputs) (s : State) : (s.controls i).config = s.config :=
  (congrArg State.config (s.controls_frame i) :)

/-! ### Up to the tick -/

/-- What neither a tick nor a control operation writes is the same up to the tick of an edge. -/
theorem beforeRx_field {α : Type} {f : State → α} {i : CycleInputs} {s : State} (ht : ∀ u : State, f u.doTick = f u)
    (hc : f (s.controls i) = f s) : f (s.beforeRx i) = f s :=
  (onStrobe_field ht i.tick (s.controls i)).trans hc

@[simp] theorem State.beforeRx_slot (i : CycleInputs) (s : State) : (s.beforeRx i).slot = s.slot :=
  beforeRx_field State.doTick_slot (s.controls_slot i)
@[simp] theorem State.beforeRx_rxPhase (i : CycleInputs) (s : State) : (s.beforeRx i).rxPhase = s.rxPhase :=
  beforeRx_field State.doTick_rxPhase (s.controls_rxPhase i)
@[simp] theorem State.beforeRx_rxSlot (i : CycleInputs) (s : State) : (s.beforeRx i).rxSlot = s.rxSlot :=
  beforeRx_field State.doTick_rxSlot (s.controls_rxSlot i)
@[simp] theorem State.beforeRx_txBusy (i : CycleInputs) (s : State) : (s.beforeRx i).txBusy = s.txBusy :=
  beforeRx_field State.doTick_txBusy (s.controls_txBusy i)
@[simp] theorem State.beforeRx_txIdx (i : CycleInputs) (s : State) : (s.beforeRx i).txIdx = s.txIdx :=
  beforeRx_field State.doTick_txIdx (s.controls_txIdx i)
@[simp] theorem State.beforeRx_txLatch (i : CycleInputs) (s : State) : (s.beforeRx i).txLatch = s.txLatch :=
  beforeRx_field State.doTick_txLatch (s.controls_txLatch i)
@[simp] theorem State.beforeRx_config (i : CycleInputs) (s : State) : (s.beforeRx i).config = s.config :=
  beforeRx_field State.doTick_config (s.controls_config i)

/-! ### After the received byte -/

/-- What neither an acceptance nor a poll writes is the same after the received byte of an edge. -/
theorem afterRx_field {α : Type} {f : State → α} {i : CycleInputs} {s : State} (hp : ∀ u : State, f u.doTxpoll = f u)
    (hr : ∀ u : State, f u.doTxrdy = f u) : f (s.afterRx i) = f s :=
  (hp _).trans (onStrobe_field hr i.txReady s)

@[simp] theorem State.afterRx_tc (i : CycleInputs) (s : State) : (s.afterRx i).tc = s.tc :=
  afterRx_field State.doTxpoll_tc State.doTxrdy_tc
@[simp] theorem State.afterRx_cursor (i : CycleInputs) (s : State) : (s.afterRx i).cursor = s.cursor :=
  afterRx_field State.doTxpoll_cursor State.doTxrdy_cursor
@[simp] theorem State.afterRx_level (i : CycleInputs) (s : State) : (s.afterRx i).level = s.level :=
  afterRx_field State.doTxpoll_level State.doTxrdy_level
@[simp] theorem State.afterRx_clockStarted (i : CycleInputs) (s : State) :
    (s.afterRx i).clockStarted = s.clockStarted :=
  afterRx_field State.doTxpoll_clockStarted State.doTxrdy_clockStarted
@[simp] theorem State.afterRx_clockPaused (i : CycleInputs) (s : State) : (s.afterRx i).clockPaused = s.clockPaused :=
  afterRx_field State.doTxpoll_clockPaused State.doTxrdy_clockPaused

@[simp] theorem State.afterRx_config (i : CycleInputs) (s : State) : (s.afterRx i).config = s.config :=
  afterRx_field State.doTxpoll_config State.doTxrdy_config

@[simp] theorem State.afterRx_transport (i : CycleInputs) (s : State) : (s.afterRx i).transport = s.transport := by
  rw [State.transport, State.afterRx_clockStarted, State.afterRx_clockPaused, State.transport]

end Sys2Proof.Machine
end

section
/-! PROOFS. Top level: the clock edge and its ports (45_top_level_step.md R230 to R232), and what the ports do not show
(93_implementation_defined.md U6). -/

namespace Sys2Proof.Machine

/-! ### The sequence of an edge -/

/-- An operation on its strobe, as an outcome. -/
theorem exec_if_strobe {j : Instr} {op : State → State} (h : ∀ s, exec j s = .next (op s)) (strobe : Bool) (s : State) :
    (if strobe then exec j s else .next s) = .next (onStrobe strobe op s) := by
  cases strobe with
  | false => rfl
  | true => exact h s

/-- Settles O42: the seven states between the operations are those of `doCycle`. -/
theorem cycleIsTheFixedSequence : Obligations.CycleIsTheFixedSequence := by
  refine fun s i => ⟨fun h => ?reset, fun h => ?sequence⟩
  case reset => rw [exec_cycle, exec_reset, State.doCycle, if_pos h]
  case sequence =>
    refine ⟨_, _, _, _, _, _, _, exec_if_strobe exec_start _ _, exec_if_strobe exec_resume _ _,
      exec_if_strobe exec_pause _ _, exec_if_strobe exec_stop _ _, exec_if_strobe exec_tick _ _,
      exec_if_strobe (exec_rx i.rxData) _ _, exec_if_strobe exec_txrdy _ _, ?_⟩
    rw [exec_cycle, exec_txpoll, doCycle_eq s h]
    rfl

/-- A poll leaves nothing for a second one to serve. -/
theorem doTxpoll_doTxpoll (s : State) : s.doTxpoll.doTxpoll = s.doTxpoll := by
  rcases doTxpoll_cases s with ⟨-, -, -, -, h⟩ | ⟨-, -, -, h⟩ | ⟨-, h⟩
  · exact doTxpoll_idle (.inr (by rw [h]))
  · exact doTxpoll_idle (.inl (by rw [h]))
  · rw [h, h]

theorem external_of_portsOf {i : Instr} {p : CycleInputs} (h : portsOf i = some p) : IsExternal i := by
  cases i with
  | reset | tick | rx b | start | stop | pause | resume | txrdy | txpoll => rfl
  | _ => cases h

/-- Settles O44: the strobes of the other operations are 0. After reset, and after a poll, the
poll has nothing to serve. -/
theorem wordOnThePortsAddsAPoll : Obligations.WordOnThePortsAddsAPoll := by
  intro i p s h
  rcases external_cases (external_of_portsOf h) with rfl | rfl | ⟨b, rfl⟩ | rfl | rfl | rfl | rfl | rfl | rfl <;>
    obtain rfl := Option.some.inj h
  case inl =>
    refine ⟨_, exec_reset s, ?_⟩
    rw [exec_txpoll, doTxpoll_idle (.inl s.doReset_txPending)]
    rfl
  case inr.inr.inr.inr.inr.inr.inr.inr =>
    exact ⟨_, exec_txpoll s, congrArg Host.Outcome.next (doTxpoll_doTxpoll s).symm⟩
  all_goals exact ⟨_, rfl, rfl⟩

/-! ### A reassembly or a stop in an edge -/

/-- Settles O45: the tick and the control operations leave the receiver alone, and nothing after the received byte
writes the counter or the transport flags. -/
theorem reassemblyWinsTheCycle : Obligations.ReassemblyWinsTheCycle := by
  intro s i hr hv ⟨hp, hk⟩
  have received : s.throughRx i = (s.beforeRx i).doRx i.rxData := by
    rw [State.throughRx, hv]
    rfl
  refine ⟨_, exec_cycle i s, ?_⟩
  rw [doCycle_eq s hr, received, doRx_seven (by rw [State.beforeRx_rxPhase, hp]) (by rw [State.beforeRx_rxSlot, hk]),
    State.afterRx_transport, State.afterRx_tc, State.beforeRx_slot]
  exact ⟨rfl, isAssembled_writeSlot_seven s.slot (dataNibble i.rxData)⟩

/-- With `stop` in an edge its tick sees Stopped. -/
theorem beforeRx_of_stop {i : CycleInputs} (s : State) (h : i.stop = true) :
    (s.beforeRx i).transport = .stopped ∧ (s.beforeRx i).cursor = s.cursor ∧ (s.beforeRx i).tc = s.tc ∧
      (s.beforeRx i).level = if i.tick then .ground else s.level := by
  have stopped : (s.controls i).transport = .stopped := by
    rw [State.controls, h]
    exact State.doStop_transport _
  unfold State.beforeRx
  cases i.tick with
  | false => exact ⟨stopped, s.controls_cursor i, s.controls_tc i, s.controls_level i⟩
  | true =>
    have ground : onStrobe true State.doTick (s.controls i) = _ := doTick_notRunning (by rw [stopped]; nofun)
    rw [ground]
    exact ⟨stopped, s.controls_cursor i, s.controls_tc i, rfl⟩

/-- Without a reassembly the received byte of an edge writes the receiver's registers only. -/
theorem throughRx_frame {i : CycleInputs} {s : State} (h : ¬ (i.rxValid = true ∧ s.AwaitsSlotSeven)) :
    s.throughRx i =
      { s.beforeRx i with slot := (s.throughRx i).slot, rxPhase := (s.throughRx i).rxPhase
                          rxSlot := (s.throughRx i).rxSlot } := by
  unfold State.throughRx
  cases hv : i.rxValid with
  | false => rfl
  | true =>
    refine State.doRx_frame_of_not_awaits i.rxData fun hk => h ⟨hv, ?_⟩
    rwa [State.AwaitsSlotSeven, State.beforeRx_rxPhase, State.beforeRx_rxSlot] at hk

/-- Settles O46. -/
theorem stopWinsTheCycle : Obligations.StopWinsTheCycle := by
  intro s i hr hstop hn
  obtain ⟨ht, hc, htc, hl⟩ := beforeRx_of_stop s hstop
  refine ⟨_, exec_cycle i s, ?_⟩
  rw [doCycle_eq s hr, throughRx_frame hn, State.afterRx_transport, State.afterRx_cursor, State.afterRx_tc,
    State.afterRx_level]
  exact ⟨ht, hc, htc, fun h => hl.trans (if_pos h), fun h => hl.trans (by rw [h]; rfl)⟩

/-! ### The ports -/

/-- Settles O47: a poll finds the transfer in progress, and nothing before it is an acceptance. -/
theorem offeredByteIsHeld : Obligations.OfferedByteIsHeld := by
  intro s i hr hn hv
  have hb : (s.throughRx i).txBusy = s.txBusy :=
    (onStrobe_field (State.doRx_txBusy i.rxData) i.rxValid _).trans (s.beforeRx_txBusy i)
  have hi : (s.throughRx i).txIdx = s.txIdx :=
    (onStrobe_field (State.doRx_txIdx i.rxData) i.rxValid _).trans (s.beforeRx_txIdx i)
  have hl : (s.throughRx i).txLatch = s.txLatch :=
    (onStrobe_field (State.doRx_txLatch i.rxData) i.rxValid _).trans (s.beforeRx_txLatch i)
  have idle : (s.throughRx i).afterRx i = s.throughRx i := by
    rw [State.afterRx, hn]
    exact doTxpoll_idle (.inr (hb.trans hv))
  refine ⟨_, exec_cycle i s, ?_⟩
  rw [doCycle_eq s hr, idle, State.outputs, State.outputs, hb, hi, hl]
  exact ⟨hv, rfl⟩

/-- Settles O48. -/
theorem portsShowTheRegisters : Obligations.PortsShowTheRegisters := by
  refine fun s => ⟨rfl, fun hb => ?data, fun hb => ?noData, ?level, ?transport, rfl, rfl, rfl, rfl⟩
  case data =>
    rw [getElem_expectedTransfer, State.outputs, if_pos hb]
  case noData => rw [State.outputs, hb, if_neg Bool.false_ne_true]
  case level => cases h : s.level <;> simp [State.outputs, h, Level.code]
  case transport =>
    unfold State.outputs State.transport
    cases s.clockStarted <;> cases s.clockPaused <;> rfl

/-- Settles O49: the codes, evaluated. -/
theorem stateCodes : Obligations.StateCodes := by
  unfold Obligations.StateCodes
  decide

/-! ### The registers of the transfer while there is none (U6) -/

/-- The same state, or one that differs in the registers of a transfer that is not in progress. -/
def State.IdleTwin (s s' : State) : Prop :=
  s' = s ∨ s.txBusy = false ∧ ∃ i v, s' = s.withHidden s.pending i v

/-- The ports show the registers of the transfer only while it is in progress (R230). -/
theorem outputs_withHidden {s : State} (hb : s.txBusy = false) (p : List Stimulus) (i : BitVec 4) (v : TimecodeValue) :
    (s.withHidden p i v).outputs = s.outputs := by
  simp [State.outputs, State.withHidden, State.transport, hb]

theorem Act.apply_txBusy {a : Act} (ha : a.ofTransfer = false) (s : State) : (a.apply s).txBusy = s.txBusy := by
  cases a with
  | reset | txrdy | txpoll => cases ha
  | _ => simp [Act.apply]

/-- Every primitive operation keeps two such states alike. -/
theorem State.IdleTwin.apply (a : Act) {s s' : State} (h : s.IdleTwin s') : (a.apply s).IdleTwin (a.apply s') := by
  rcases h with rfl | ⟨hb, i, v, rfl⟩
  · exact .inl rfl
  cases ha : a.ofTransfer with
  | false =>
    refine .inr ⟨(Act.apply_txBusy ha s).trans hb, i, v, ?_⟩
    rw [Act.apply_withHidden ha, Act.apply_pending]
  | true =>
    cases a with
    | reset => exact .inl rfl
    | txrdy =>
      have hs : Act.txrdy.apply s = s := doTxrdy_idle hb
      have hs' : Act.txrdy.apply (s.withHidden s.pending i v) = s.withHidden s.pending i v := doTxrdy_idle hb
      rw [hs, hs']
      exact .inr ⟨hb, i, v, rfl⟩
    | txpoll =>
      change s.doTxpoll.IdleTwin (State.doTxpoll _)
      rcases doTxpoll_cases s with ⟨hp, -, hr, he, h⟩ | ⟨hp, -, hd, h⟩ | ⟨hi, h⟩ <;> rw [h]
      · rw [doTxpoll_starts (by exact hp) (by exact hb) (by exact hr) (by exact he)]
        exact .inl rfl
      · rw [doTxpoll_drops (by exact hp) (by exact hb) (by exact hd)]
        exact .inr ⟨hb, i, v, rfl⟩
      · rw [doTxpoll_idle (by exact hi)]
        exact .inr ⟨hb, i, v, rfl⟩
    | _ => cases ha

/-- Settles O50: states that are alike stay so, and the ports show the registers of a transfer in progress only. -/
theorem idleTransferRegistersAreInvisible : Obligations.IdleTransferRegistersAreInvisible := by
  intro i s t t' idx latch hb h h'
  rw [exec_eq_applyAll] at h h'
  obtain rfl := Host.Outcome.next.inj h
  obtain rfl := Host.Outcome.next.inj h'
  have twin : s.IdleTwin { s with txIdx := idx, txLatch := latch } := .inr ⟨hb, idx, latch, rfl⟩
  rcases applyAll_rel (fun a _ _ => State.IdleTwin.apply a) (actsOf i) twin with same | ⟨hb', j, v, differ⟩
  · rw [same]
    exact ⟨rfl, rfl, fun _ => rfl⟩
  · rw [differ]
    exact ⟨outputs_withHidden hb' _ j v, rfl, fun h => by cases hb'.symm.trans h⟩

end Sys2Proof.Machine
end

section
/-! PROOFS. The invariants: the machine's (10_state.md R25, R28, 43_quarter_frame_transmitter.md R197) and the validity
of the counter (10_state.md R37). -/

namespace Sys2Proof.Machine

/-! ### What a step can do -/

/-- A step that is not refused does nothing, with nothing pending, or performs the operation it decodes. -/
theorem step_cases {s t : State} (h : step s = .next t) :
    (s.pending = [] ∧ t = s) ∨ ∃ x rest i, s.pending = x :: rest ∧ decodeStimulus s.rxPhase x = some i ∧
      t = applyAll (actsOf i) { s with pending := rest } := by
  unfold step at h
  split at h
  next hp => exact .inl ⟨hp, (Host.Outcome.next.inj h).symm⟩
  next x rest hp =>
    split at h
    next i hi =>
      rw [exec_eq_applyAll] at h
      exact .inr ⟨x, rest, i, hp, hi, (Host.Outcome.next.inj h).symm⟩
    next => cases h

/-! ### The machine's invariant -/

/-- The invariant does not speak of the counter, the receiver or the pending operations, and of the transport flags
only as a pair. -/
theorem State.Sound.of_frame {s : State} (hs : s.Sound) (v : TimecodeValue) (x : Vector Nibble 8) (ph : RxPhase)
    (k : BitVec 3) (p : List Stimulus) {started paused : Bool} (hf : paused = true → started = true) :
    ({ s with tc := v, slot := x, rxPhase := ph, rxSlot := k, pending := p, clockStarted := started
              clockPaused := paused } : State).Sound :=
  ⟨hf, hs.level, hs.transfers, hs.silent, hs.waits⟩

/-- After reset nothing has been written, sent or due. -/
theorem sound_of_reset (c : Config) (p : List Stimulus) :
    ({ State.reset with config := c, pending := p } : State).Sound where
  flags := nofun
  level := rfl
  transfers := ⟨[], rfl⟩
  silent := fun _ => ⟨rfl, rfl⟩
  waits := ⟨Nat.zero_le _, nofun⟩

/-- One more level on the line keeps the invariant, if the cursor does not run ahead of it and the frame-complete
flag is set after 80 levels only. -/
theorem State.Sound.drive {s : State} (hs : s.Sound) (l : Level) (c : Fin 80) (pend : Bool)
    (hc : c.val ≤ s.lineTrace.length + 1)
    (hp : pend = true → s.txPending = true ∨ 80 ≤ s.lineTrace.length + 1) :
    ({ s with level := l, lineTrace := s.lineTrace ++ [l], cursor := c, txPending := pend } : State).Sound where
  flags := hs.flags
  level := by simp [State.LevelIsLastWritten]
  transfers := hs.transfers
  silent := hs.silent
  waits := by
    obtain ⟨-, hw⟩ := hs.waits
    rw [State.NothingSentBeforeFirstFrame, List.length_append, List.length_singleton]
    refine ⟨hc, ?_⟩
    rintro (h | h)
    · rcases hp h with h | h
      · have := hw (.inl h)
        omega
      · exact h
    · have := hw (.inr h)
      omega

theorem State.Sound.doTick {s : State} (hs : s.Sound) : s.doTick.Sound := by
  obtain ⟨hc, -⟩ := hs.waits
  rcases doTick_cases s with ⟨-, h⟩ | ⟨-, h79, h⟩ | ⟨-, c, hc', h⟩ <;> rw [h]
  · exact hs.drive .ground s.cursor s.txPending (by omega) .inl
  · exact (hs.drive .ground 0 true (Nat.zero_le _) fun _ => .inr (by omega)).of_frame _ _ _ _ _ hs.flags
  · exact hs.drive _ c s.txPending (by omega) .inl

theorem State.Sound.doRx {s : State} (hs : s.Sound) (b : Byte) : (s.doRx b).Sound := by
  rcases doRx_cases s b with ⟨-, -, h⟩ | ⟨-, -, h⟩ | ⟨-, -, h⟩ | ⟨-, -, h⟩ <;> rw [h]
  · exact hs.of_frame _ _ _ _ _ hs.flags
  · exact hs
  · exact hs.of_frame _ _ _ _ _ hs.flags
  · exact hs.of_frame _ _ _ _ _ nofun

theorem State.Sound.doPause {s : State} (hs : s.Sound) : s.doPause.Sound := by
  rcases doPause_cases s with ⟨hr, h⟩ | ⟨-, h⟩ <;> rw [h]
  · exact hs.of_frame _ _ _ _ _ fun _ => ((transport_running_iff s).1 hr).1
  · exact hs

theorem State.Sound.doResume {s : State} (hs : s.Sound) : s.doResume.Sound := by
  rcases doResume_cases s with ⟨-, -, h⟩ | ⟨-, h⟩ <;> rw [h]
  · exact hs.of_frame _ _ _ _ _ nofun
  · exact hs

/-- Byte `i` extends the first `i` bytes of a transfer. -/
theorem take_succ_transferBytes (v : TimecodeValue) (i : BitVec 4) :
    (transferBytes v).take (i.toNat + 1) = (transferBytes v).take i.toNat ++ [txByte i v] := by
  rw [List.take_add_one, getElem_transferBytes]
  rfl

/-- Byte 15 completes a transfer. -/
theorem transferBytes_eq_take_append (v : TimecodeValue) :
    transferBytes v = (transferBytes v).take 15 ++ [txByte 15 v] :=
  (List.take_of_length_le (length_transferBytes v).le).symm.trans (take_succ_transferBytes v 15)

/-- Emitting the next byte of a transfer keeps the serial output whole. -/
theorem State.TransfersWhole.doTxrdy {s : State} (h : s.TransfersWhole) : s.doTxrdy.TransfersWhole := by
  obtain ⟨sent, hsent⟩ := h
  rcases doTxrdy_cases s with ⟨-, hd⟩ | ⟨hb, hi, hd⟩ | ⟨hb, hi, hd⟩ <;> rw [hd]
  · exact ⟨sent, hsent⟩
  · refine ⟨sent ++ [s.txLatch], ?_⟩
    rw [if_pos hb, hi] at hsent
    rw [hsent, List.map_append, List.flatten_append, List.append_assoc, List.append_assoc]
    exact congrArg _ (by simpa using (transferBytes_eq_take_append s.txLatch).symm)
  · refine ⟨sent, ?_⟩
    have hlt : (s.txIdx + 1).toNat = s.txIdx.toNat + 1 := by bv_omega
    rw [if_pos hb] at hsent
    simp only [hb, if_true, hlt, take_succ_transferBytes, hsent, List.append_assoc]

theorem State.Sound.txEnable_of_busy {s : State} (hs : s.Sound) (hb : s.txBusy = true) :
    s.config.txEnable = true := by
  by_contra h
  have := (hs.silent (Bool.not_eq_true _ ▸ h)).1
  rw [hb] at this
  cases this

theorem State.Sound.doTxrdy {s : State} (hs : s.Sound) : s.doTxrdy.Sound := by
  by_cases hb : s.txBusy = true
  case neg => rwa [doTxrdy_idle (Bool.not_eq_true _ ▸ hb)]
  have hen := hs.txEnable_of_busy hb
  obtain ⟨hc, hw⟩ := hs.waits
  have h80 : 80 ≤ s.lineTrace.length := hw (.inr (.inl hb))
  exact
    { flags := by rw [State.FlagsLegal, doTxrdy_clockPaused, doTxrdy_clockStarted]; exact hs.flags
      level := by rw [State.LevelIsLastWritten, doTxrdy_level, doTxrdy_lineTrace]; exact hs.level
      transfers := hs.transfers.doTxrdy
      silent := by rw [State.SilentWhenDisabled, doTxrdy_config, hen]; nofun
      waits := by rw [State.NothingSentBeforeFirstFrame, doTxrdy_cursor, doTxrdy_lineTrace]; exact ⟨hc, fun _ => h80⟩ }

theorem State.Sound.doTxpoll {s : State} (hs : s.Sound) : s.doTxpoll.Sound := by
  obtain ⟨hc, hw⟩ := hs.waits
  rcases doTxpoll_cases s with ⟨hp, hb, -, he, h⟩ | ⟨hp, hb, -, h⟩ | ⟨-, h⟩ <;> rw [h]
  · have h80 : 80 ≤ s.lineTrace.length := hw (.inl hp)
    exact
      { flags := hs.flags
        level := hs.level
        transfers := by simpa [State.TransfersWhole, hb] using hs.transfers
        silent := fun h0 => by cases he.symm.trans h0
        waits := ⟨hc, fun _ => h80⟩ }
  · exact
      { flags := hs.flags
        level := hs.level
        transfers := hs.transfers
        silent := hs.silent
        waits := ⟨hc, fun h => hw (h.imp_left nofun)⟩ }
  · exact hs

/-- Every primitive operation keeps the invariant. -/
theorem State.Sound.apply {s : State} (hs : s.Sound) (a : Act) : (a.apply s).Sound := by
  cases a with
  | reset => exact sound_of_reset s.config s.pending
  | tick => exact hs.doTick
  | rx b => exact hs.doRx b
  | start => exact hs.of_frame _ _ _ _ _ nofun
  | stop => exact hs.of_frame _ _ _ _ _ nofun
  | pause => exact hs.doPause
  | resume => exact hs.doResume
  | txrdy => exact hs.doTxrdy
  | txpoll => exact hs.doTxpoll
  | inc => exact hs.of_frame _ _ _ _ _ hs.flags
  | setfrom v => exact hs.of_frame _ _ _ _ _ hs.flags

/-- Settles O56: a step is a run of primitive operations, each of which keeps the invariant. -/
theorem stepKeepsSound : Obligations.StepKeepsSound := by
  intro s t hs h
  rcases step_cases h with ⟨-, rfl⟩ | ⟨x, rest, i, -, -, rfl⟩
  · exact hs
  · exact applyAll_keeps (fun a u hu => hu.apply a) (actsOf i) (hs.of_frame _ _ _ _ rest hs.flags)

/-- Settles O57. -/
theorem resetIsSound : Obligations.ResetIsSound :=
  sound_of_reset

/-! ### The validity of the counter -/

/-- Reset, the increment and a load of a valid value apart, nothing writes the counter. -/
theorem valid_apply {a : Act} {s : State} (ha : ∀ v, a ≠ .setfrom v) (hrx : ∀ b, a = .rx b → s.LoadsValid b)
    (h : s.tc.Valid s.config.fps) : (a.apply s).tc.Valid (a.apply s).config.fps := by
  rw [Act.apply_config]
  cases a with
  | reset => exact ⟨Nat.zero_le _, Nat.zero_le _, Nat.zero_le _, Nat.zero_le _⟩
  | tick =>
    change s.doTick.tc.Valid _
    rcases doTick_cases s with ⟨-, hd⟩ | ⟨-, -, hd⟩ | ⟨-, c, -, hd⟩ <;> rw [hd]
    · exact h
    · exact valid_inc h
    · exact h
  | rx b =>
    change (s.doRx b).tc.Valid _
    by_cases hk : s.AwaitsSlotSeven
    · rw [doRx_seven hk.1 hk.2]
      exact hrx b rfl hk.1 hk.2
    · rw [State.doRx_frame_of_not_awaits b hk]
      exact h
  | inc => exact valid_inc h
  | setfrom v => exact absurd rfl (ha v)
  | start | stop => exact h
  | pause => exact s.doPause_tc ▸ h
  | resume => exact s.doResume_tc ▸ h
  | txrdy => exact s.doTxrdy_tc ▸ h
  | txpoll => exact s.doTxpoll_tc ▸ h

/-- An edge keeps the counter valid, if the byte it delivers does not load an invalid value. -/
theorem valid_doCycle {s : State} {i : CycleInputs} (hrx : (i.rxValid && !i.rst) = true → s.LoadsValid i.rxData)
    (h : s.tc.Valid s.config.fps) : (s.doCycle i).tc.Valid (s.doCycle i).config.fps := by
  cases hr : i.rst with
  | true =>
    rw [State.doCycle, if_pos hr]
    exact valid_apply (a := .reset) nofun nofun h
  | false =>
    have before : (s.beforeRx i).tc.Valid (s.beforeRx i).config.fps := by
      refine onStrobe_keeps (P := fun u => u.tc.Valid u.config.fps)
        (fun u => valid_apply (a := .tick) nofun nofun) i.tick ?_
      rwa [State.controls_tc, State.controls_config]
    have received : (s.throughRx i).tc.Valid (s.throughRx i).config.fps := by
      unfold State.throughRx
      cases hv : i.rxValid with
      | false => exact before
      | true =>
        have loads : (s.beforeRx i).LoadsValid i.rxData := by
          have := hrx (by rw [hv, hr]; rfl)
          rwa [State.LoadsValid, State.beforeRx_rxPhase, State.beforeRx_rxSlot, State.beforeRx_slot,
            State.beforeRx_config]
        exact valid_apply (a := .rx i.rxData) nofun (fun b hb => Act.rx.inj hb ▸ loads) before
    rw [doCycle_eq s hr, State.afterRx_tc, State.afterRx_config]
    exact received

/-- An external operation is one primitive operation, `RX` of the same byte if it is one, and never `SETFROM`. -/
theorem actsOf_external {i : Instr} (h : IsExternal i) :
    ∃ a, actsOf i = [a] ∧ (∀ v, a ≠ .setfrom v) ∧ ∀ b, a = .rx b → i = .rx b := by
  rcases external_cases h with rfl | rfl | ⟨c, rfl⟩ | rfl | rfl | rfl | rfl | rfl | rfl
  case inr.inr.inl => exact ⟨_, rfl, nofun, fun b hb => congrArg Instr.rx (Act.rx.inj hb)⟩
  all_goals exact ⟨_, rfl, nofun, nofun⟩

/-- Settles O58: the three kinds of stimulus, a word or a byte being one primitive operation. -/
theorem validCounterIsKept : Obligations.ValidCounterIsKept := by
  intro s t hv hload h
  rcases step_cases h with ⟨-, rfl⟩ | ⟨x, rest, i, hp, hd, rfl⟩
  · exact hv
  have loads : ∀ b, x.deliversByte = some b → s.LoadsValid b := fun b => hload x rest b hp
  cases x with
  | word w =>
    have hw : decodeWord w = some i := hd
    obtain ⟨e, rfl, he⟩ := decodeWord_eq_some hw
    have hx : IsExternal i := by rw [IsExternal, encodeEvent_of_decodeEvent he]; rfl
    obtain ⟨a, ha, hset, hrx⟩ := actsOf_external hx
    rw [ha]
    refine valid_apply hset (fun b hb => loads b ?_) hv
    rw [Stimulus.deliversByte, hw, hrx b hb]
  | byte b =>
    obtain rfl := Option.some.inj hd
    rw [actsOf_decodeSerial]
    exact valid_apply (a := .rx b) nofun (fun c hc => Act.rx.inj hc ▸ loads b rfl) hv
  | edge c =>
    obtain rfl := Option.some.inj hd
    rw [actsOf, applyAll_cycleActs]
    exact valid_doCycle (s := { s with pending := rest }) (fun hc => loads _ (if_pos hc)) hv

end Sys2Proof.Machine
end
